-- ==== Sys2Proof/Word.lean ====
section
/-! DEFINITION. The words of the core: a byte of IN or OUT, a slot of TOK, an entry of a decode table (R68, R72, R126). -/

namespace Sys2Proof

/-- One byte of IN, OUT or the logical output (R72). -/
abbrev Byte := BitVec 8

/-- One slot of the token memory: "a slot holds a natural below 2^16" (R68). -/
abbrev Slot := BitVec 16

/-- One 32-bit word of a decode table (R126). -/
abbrev Entry := BitVec 32

end Sys2Proof
end

