-- ==== Sys2Proof/Config.lean ====
section
/-! DEFINITION. What is fixed for a machine: the constants of R9, the named parameters of R11 as plain data, and the
free values, which have no body. -/

namespace Sys2Proof.Config

/-- WINDOW (R9). -/
def window : Nat := 32768
/-- MIN_MATCH (R9). -/
def minMatch : Nat := 3
/-- MAX_MATCH (R9). -/
def maxMatch : Nat := 258
/-- N_LITLEN (R9). -/
def nLitLen : Nat := 286
/-- N_DIST (R9). -/
def nDist : Nat := 30
/-- N_CL (R9). -/
def nCl : Nat := 19
/-- L_LITLEN (R9). -/
def limitLitLen : Nat := 15
/-- L_DIST, the limit the encoder applies (R9, R44). -/
def limitDist : Nat := 7
/-- L_CL (R9). -/
def limitCl : Nat := 7
/-- STORED_MAX (R9). -/
def storedMax : Nat := 65535

/-- "a caller-supplied fixed/additive override" of the growth ratio (R11, R35, R284). DESIGN CHOICE (log 22): the spec gives no
format for it (91_not_in_source.md N11); here it is a natural ratio or a natural number of bytes. No effect on any result
(R285). -/
inductive GrowthOverride where
  | fixed (ratio : Nat)
  | additive (bytes : Nat)
deriving DecidableEq, Repr, Inhabited

/-- GROWTH (R11): the document's formula, or an implementation's own policy, named by a number (the naming is
the model's, DESIGN CHOICE, log 22). No effect on any result (R70, R284, U7). -/
inductive GrowthPolicy where
  | documentRatio
  | own (policy : Nat)
deriving DecidableEq, Repr, Inhabited

/-- One value of the parameter CodeLengths (R11, R204): on these frequencies, with this limit, the implementation
answers these lengths. It counts only where the contract of R204 holds of it (`Machine.codeLengths`). -/
structure CodeLengthChoice where
  freq  : List Nat
  limit : Nat
  lens  : List Nat
deriving DecidableEq, Repr, Inhabited

/-- The named parameters of R11 and 93_implementation_defined.md part 2. They are plain data that no step changes, so a
statement about every state is a statement about every value of them. -/
structure Params where
  /-- MAX_OUTPUT_BYTES, or none (R11, U3). -/
  maxOutputBytes    : Option Nat
  /-- GROWTH (R11, U7). -/
  growth            : GrowthPolicy
  /-- DEFAULT_BUFFER_SIZE (R11, R36). -/
  defaultBufferSize : Nat
  /-- CodeLengths (R11, U6): where it departs from the reference function of R206. -/
  codeLengths       : List CodeLengthChoice
deriving DecidableEq, Repr, Inhabited

/-- The parameters of the machine `State.reset` describes. DESIGN CHOICE (log 4, log 5): no ceiling, the document's
ratio, buffer size 0, the reference CodeLengths. -/
def Params.reference : Params :=
  { maxOutputBytes := none, growth := .documentRatio, defaultBufferSize := 0, codeLengths := [] }

/-- Free value (U5): the byte of OUT at an address that neither the host's buffer nor the writer has filled. -/
opaque freeByte : Nat → Nat → Byte

/-- Free value (U10): what RD.CONSUMED returns after a fault. -/
opaque freeNat : Nat → Nat

end Sys2Proof.Config
end

