-- ==== Sys2Proof/Syntax.lean ====
section
/-! DEFINITION. The instructions of the core: one constructor per row of spec/opcode_table.json. Host commands carry
their operands (R130); elements of the bit stream carry their extra bits (R96, R97); tokens their slots (R122). -/

namespace Sys2Proof

/-- A decode table with its two measures, "(table, maxLen, minLen)" (R24, R160). -/
structure DecodeTable where
  table  : List Entry
  maxLen : Nat
  minLen : Nat
deriving DecidableEq, Repr, Inhabited

/-- The three alphabets: literal/length, distance, code length (R18). -/
inductive Alphabet where
  | litLen
  | dist
  | codeLen
deriving DecidableEq, Repr, Inhabited

/-- The operand of a table-passing command: the table itself beside the command word, or the instance's table of an
alphabet (R380; log 11). -/
inductive TableArg where
  | lit (entries : List Nat)
  | reg (alphabet : Alphabet)
deriving DecidableEq, Repr, Inhabited

/-- The instructions. -/
inductive Instr where
  -- CMD (R130)
  | reset
  | bwInit
  | bwWrite (value n : Nat) (reversed : Bool)
  | bwFinish
  | brInit
  | brRead (n : Nat)
  | brDecode (table : DecodeTable)
  | brAlign
  | brSave
  | brRestore
  | htbBuild (lengths : TableArg)
  | lzmRun
  | ccbLengths (freq : TableArg) (limit : Nat)
  | ccbCodes (lengths : TableArg)
  | ccbRle (seq : List Nat)
  | encStored
  | encFixed
  | encDynamic
  | decBlock
  | decAdaptive
  | sdecInit
  | sdecCall (chunk : Option (List Byte)) (startOffset : Option Nat)
  | rdConsumed
  -- BLKHDR (R91, R92)
  | blockStored (bfinal : Bool)
  | blockFixed (bfinal : Bool)
  | blockDynamic (bfinal : Bool)
  | blockReserved (bfinal : Bool)
  -- COMPRESSED, literal/length symbols (R97, R105)
  | lit (b : Byte)
  | eob
  | len257
  | len258
  | len259
  | len260
  | len261
  | len262
  | len263
  | len264
  | len265 (extra : BitVec 1)
  | len266 (extra : BitVec 1)
  | len267 (extra : BitVec 1)
  | len268 (extra : BitVec 1)
  | len269 (extra : BitVec 2)
  | len270 (extra : BitVec 2)
  | len271 (extra : BitVec 2)
  | len272 (extra : BitVec 2)
  | len273 (extra : BitVec 3)
  | len274 (extra : BitVec 3)
  | len275 (extra : BitVec 3)
  | len276 (extra : BitVec 3)
  | len277 (extra : BitVec 4)
  | len278 (extra : BitVec 4)
  | len279 (extra : BitVec 4)
  | len280 (extra : BitVec 4)
  | len281 (extra : BitVec 5)
  | len282 (extra : BitVec 5)
  | len283 (extra : BitVec 5)
  | len284 (extra : BitVec 5)
  | len285
  | llInvalid286
  | llInvalid287
  -- COMPRESSED, distance symbols (R97, R106)
  | dist0
  | dist1
  | dist2
  | dist3
  | dist4 (extra : BitVec 1)
  | dist5 (extra : BitVec 1)
  | dist6 (extra : BitVec 2)
  | dist7 (extra : BitVec 2)
  | dist8 (extra : BitVec 3)
  | dist9 (extra : BitVec 3)
  | dist10 (extra : BitVec 4)
  | dist11 (extra : BitVec 4)
  | dist12 (extra : BitVec 5)
  | dist13 (extra : BitVec 5)
  | dist14 (extra : BitVec 6)
  | dist15 (extra : BitVec 6)
  | dist16 (extra : BitVec 7)
  | dist17 (extra : BitVec 7)
  | dist18 (extra : BitVec 8)
  | dist19 (extra : BitVec 8)
  | dist20 (extra : BitVec 9)
  | dist21 (extra : BitVec 9)
  | dist22 (extra : BitVec 10)
  | dist23 (extra : BitVec 10)
  | dist24 (extra : BitVec 11)
  | dist25 (extra : BitVec 11)
  | dist26 (extra : BitVec 12)
  | dist27 (extra : BitVec 12)
  | dist28 (extra : BitVec 13)
  | dist29 (extra : BitVec 13)
  | distInvalid30
  | distInvalid31
  -- CLSYM (R96)
  | cl0
  | cl1
  | cl2
  | cl3
  | cl4
  | cl5
  | cl6
  | cl7
  | cl8
  | cl9
  | cl10
  | cl11
  | cl12
  | cl13
  | cl14
  | cl15
  | cl16 (extra : BitVec 2)
  | cl17 (extra : BitVec 3)
  | cl18 (extra : BitVec 7)
  -- DYNHDR (R95), STORED (R93)
  | dynHdr (hlit hdist : BitVec 5) (hclen : BitVec 4)
  | storedHdr (len nlen : BitVec 16)
  -- TOKEN (R120 to R122); slot 0 of a match is 256 + lc
  | tLit (b : Byte)
  | tEob
  | tMatch (lc : BitVec 8) (lextra lvalue dcode dextra dvalue : Slot)
  -- DTE (R126)
  | dte (codeLength symbol : BitVec 16)
deriving DecidableEq, Repr

end Sys2Proof
end

