-- ==== Sys2Proof/WellFormed.lean ====
section
/-! DEFINITION. Which instructions are well formed: every operand is inside the range the rules give it. An ill-formed
command is still issued by a host; what then happens is its meaning's own (E_API, R337). -/

namespace Sys2Proof

/-- Every code length is 0..15 (R37, R160, R215). -/
def lengthsOk (l : List Nat) : Bool := l.all (· ≤ 15)

/-- A code-length table as an operand: each entry 0..15 (R37); a table of the instance always is. -/
def TableArg.rangeOk : TableArg → Bool
  | .lit l => Sys2Proof.lengthsOk l
  | .reg _ => true

/-- The operand of HTB.BUILD: besides, at most 288 symbols (R160). -/
def TableArg.lengthsOk : TableArg → Bool
  | .lit l => Sys2Proof.lengthsOk l && decide (l.length ≤ 288)
  | .reg _ => true

/-- A triple of HTB.BUILD: 2^maxLen entries, maxLen 0..15 (R29, R162). -/
def DecodeTable.sized (t : DecodeTable) : Bool := decide (t.maxLen ≤ 15) && decide (t.table.length = 2 ^ t.maxLen)

/-- The operand ranges, command by command and element by element. Extra fields and slots are in range by their types. -/
def Instr.wellFormed : Instr → Bool
  | .bwWrite value n _ => decide (n ≤ 32) && decide (value < 2 ^ n)        -- R142
  | .brRead n => decide (n ≤ 16)                                          -- R147
  | .brDecode t => t.sized                                                -- R149
  | .htbBuild a => a.lengthsOk                                            -- R160
  | .ccbLengths _ limit => decide (1 ≤ limit) && decide (limit ≤ 15)      -- R201
  | .ccbCodes a => a.rangeOk                                              -- R210, R37
  | .ccbRle seq => lengthsOk seq                                          -- R215
  | .tMatch lc _ _ _ _ _ => decide (lc ≠ 0)                               -- R121, R122: slot 0 above 256
  | .dte cl sym => decide (cl.toNat ≤ 15) && decide (sym.toNat ≤ 287)     -- R126
  | _ => true

end Sys2Proof
end

