-- ==== Sys2Proof/Decode.lean ====
section
/-! DEFINITION. Decoding and encoding. What the core finds where it fetches is a `Raw`: a format, the bits as one number
(bit 0 first in the stream, R91; least significant bit of the command word, R130), and for a command the operands
"passed beside the word as named values". Decoding is total and rejects by name. -/

namespace Sys2Proof

/-- The formats of 30_encoding.md. -/
inductive Format where
  | cmd      -- R130, 16 bits
  | blkHdr   -- R91, 3 bits
  | stored   -- R93, LEN and NLEN, 32 bits
  | dynHdr   -- R95, the first 14 bits
  | clSym    -- R96: bits 4..0 the symbol, then its extra bits
  | litLen   -- R97: bits 8..0 the literal/length symbol, then its extra bits
  | dist     -- R97: bits 4..0 the distance symbol, then its extra bits
  | token    -- R120 to R122: 16-bit slots, slot 0 lowest
  | dte      -- R126, 32 bits
deriving DecidableEq, Repr

/-- The operands beside a command word (R130), each at its neutral value where a command has none. -/
structure CmdOps where
  value       : Nat := 0
  n           : Nat := 0
  reversed    : Bool := false
  table       : DecodeTable := { table := [], maxLen := 0, minLen := 0 }
  source      : TableArg := .lit []
  limit       : Nat := 0
  seq         : List Nat := []
  chunk       : Option (List Byte) := none
  startOffset : Option Nat := none
deriving DecidableEq, Repr

/-- What the core finds where it fetches. -/
structure Raw where
  format : Format
  word   : Nat
  ops    : CmdOps := {}
deriving DecidableEq, Repr

/-- Why a `Raw` is no instruction. -/
inductive DecodeError where
  /-- an operation code outside R130 -/
  | unknownOperation (op : Nat)
  /-- a selector outside R131 -/
  | badSelector (op selector : Nat)
  /-- a symbol outside its alphabet -/
  | noSuchSymbol (symbol : Nat)
  /-- a slot 0 that begins no token (R123) -/
  | badToken (slot : Nat)
  /-- bits beyond the element's length -/
  | excessBits (word : Nat)
deriving DecidableEq, Repr

/-- An element without extra bits. -/
def bare (i : Instr) (extra : Nat) : Except DecodeError Instr :=
  if extra = 0 then .ok i else .error (.excessBits extra)

/-- An element with a `w`-bit extra field. -/
def withExtra (w : Nat) (f : BitVec w → Instr) (extra : Nat) : Except DecodeError Instr :=
  if extra < 2 ^ w then .ok (f (BitVec.ofNat w extra)) else .error (.excessBits extra)

/-- The operation codes of R130. -/
def isOperation (op : Nat) : Bool :=
  [0x00, 0x01, 0x02, 0x03, 0x08, 0x09, 0x0A, 0x0B, 0x0C, 0x0D, 0x10, 0x18, 0x20, 0x21, 0x22, 0x28, 0x30, 0x38, 0x39,
    0x3A].contains op

/-- R130, R131: the command words. -/
def decodeCmd (w : Nat) (o : CmdOps) : Except DecodeError Instr :=
  match w with
  | 0x0000 => .ok .reset
  | 0x0001 => .ok .bwInit
  | 0x0002 => .ok (.bwWrite o.value o.n o.reversed)
  | 0x0003 => .ok .bwFinish
  | 0x0008 => .ok .brInit
  | 0x0009 => .ok (.brRead o.n)
  | 0x000A => .ok (.brDecode o.table)
  | 0x000B => .ok .brAlign
  | 0x000C => .ok .brSave
  | 0x000D => .ok .brRestore
  | 0x0010 => .ok (.htbBuild o.source)
  | 0x0018 => .ok .lzmRun
  | 0x0020 => .ok (.ccbLengths o.source o.limit)
  | 0x0021 => .ok (.ccbCodes o.source)
  | 0x0022 => .ok (.ccbRle o.seq)
  | 0x0028 => .ok .encStored
  | 0x0128 => .ok .encFixed
  | 0x0228 => .ok .encDynamic
  | 0x0030 => .ok .decBlock
  | 0x0130 => .ok .decAdaptive
  | 0x0038 => .ok .sdecInit
  | 0x0039 => .ok (.sdecCall o.chunk o.startOffset)
  | 0x003A => .ok .rdConsumed
  | w =>
    if w ≥ 2 ^ 16 then .error (.excessBits w)
    else if isOperation (w % 256) then .error (.badSelector (w % 256) (w / 256))
    else .error (.unknownOperation (w % 256))

/-- R91, R92: BFINAL is bit 0, BTYPE bits 2..1. -/
def decodeBlkHdr (h : Nat) : Except DecodeError Instr :=
  let bfinal := h % 2 = 1
  match h / 2 with
  | 0 => .ok (.blockStored bfinal)
  | 1 => .ok (.blockFixed bfinal)
  | 2 => .ok (.blockDynamic bfinal)
  | 3 => .ok (.blockReserved bfinal)
  | _ => .error (.excessBits h)

/-- R93: LEN is the low half, NLEN the high half. -/
def decodeStored (w : Nat) : Except DecodeError Instr :=
  if w < 2 ^ 32 then .ok (.storedHdr (BitVec.ofNat 16 w) (BitVec.ofNat 16 (w / 2 ^ 16))) else .error (.excessBits w)

/-- R95: HLIT-257 in bits 4..0, HDIST-1 in bits 9..5, HCLEN-4 in bits 13..10. -/
def decodeDynHdr (w : Nat) : Except DecodeError Instr :=
  if w < 2 ^ 14 then
    .ok (.dynHdr (BitVec.ofNat 5 w) (BitVec.ofNat 5 (w / 2 ^ 5)) (BitVec.ofNat 4 (w / 2 ^ 10)))
  else .error (.excessBits w)

/-- R96: the code-length symbols. -/
def decodeClSym (w : Nat) : Except DecodeError Instr :=
  let x := w / 32
  match w % 32 with
  | 0 => bare .cl0 x
  | 1 => bare .cl1 x
  | 2 => bare .cl2 x
  | 3 => bare .cl3 x
  | 4 => bare .cl4 x
  | 5 => bare .cl5 x
  | 6 => bare .cl6 x
  | 7 => bare .cl7 x
  | 8 => bare .cl8 x
  | 9 => bare .cl9 x
  | 10 => bare .cl10 x
  | 11 => bare .cl11 x
  | 12 => bare .cl12 x
  | 13 => bare .cl13 x
  | 14 => bare .cl14 x
  | 15 => bare .cl15 x
  | 16 => withExtra 2 .cl16 x
  | 17 => withExtra 3 .cl17 x
  | 18 => withExtra 7 .cl18 x
  | s => .error (.noSuchSymbol s)

/-- R97, R105, R133: the literal/length symbols. -/
def decodeLitLen (w : Nat) : Except DecodeError Instr :=
  let x := w / 512
  if w % 512 < 256 then bare (.lit (BitVec.ofNat 8 w)) x
  else match w % 512 with
  | 256 => bare .eob x
  | 257 => bare .len257 x
  | 258 => bare .len258 x
  | 259 => bare .len259 x
  | 260 => bare .len260 x
  | 261 => bare .len261 x
  | 262 => bare .len262 x
  | 263 => bare .len263 x
  | 264 => bare .len264 x
  | 265 => withExtra 1 .len265 x
  | 266 => withExtra 1 .len266 x
  | 267 => withExtra 1 .len267 x
  | 268 => withExtra 1 .len268 x
  | 269 => withExtra 2 .len269 x
  | 270 => withExtra 2 .len270 x
  | 271 => withExtra 2 .len271 x
  | 272 => withExtra 2 .len272 x
  | 273 => withExtra 3 .len273 x
  | 274 => withExtra 3 .len274 x
  | 275 => withExtra 3 .len275 x
  | 276 => withExtra 3 .len276 x
  | 277 => withExtra 4 .len277 x
  | 278 => withExtra 4 .len278 x
  | 279 => withExtra 4 .len279 x
  | 280 => withExtra 4 .len280 x
  | 281 => withExtra 5 .len281 x
  | 282 => withExtra 5 .len282 x
  | 283 => withExtra 5 .len283 x
  | 284 => withExtra 5 .len284 x
  | 285 => bare .len285 x
  | 286 => bare .llInvalid286 x
  | 287 => bare .llInvalid287 x
  | s => .error (.noSuchSymbol s)

/-- R97, R106, R133: the distance symbols; 30 and 31 are the patterns of the fixed code that belong to no symbol. -/
def decodeDist (w : Nat) : Except DecodeError Instr :=
  let x := w / 32
  match w % 32 with
  | 0 => bare .dist0 x
  | 1 => bare .dist1 x
  | 2 => bare .dist2 x
  | 3 => bare .dist3 x
  | 4 => withExtra 1 .dist4 x
  | 5 => withExtra 1 .dist5 x
  | 6 => withExtra 2 .dist6 x
  | 7 => withExtra 2 .dist7 x
  | 8 => withExtra 3 .dist8 x
  | 9 => withExtra 3 .dist9 x
  | 10 => withExtra 4 .dist10 x
  | 11 => withExtra 4 .dist11 x
  | 12 => withExtra 5 .dist12 x
  | 13 => withExtra 5 .dist13 x
  | 14 => withExtra 6 .dist14 x
  | 15 => withExtra 6 .dist15 x
  | 16 => withExtra 7 .dist16 x
  | 17 => withExtra 7 .dist17 x
  | 18 => withExtra 8 .dist18 x
  | 19 => withExtra 8 .dist19 x
  | 20 => withExtra 9 .dist20 x
  | 21 => withExtra 9 .dist21 x
  | 22 => withExtra 10 .dist22 x
  | 23 => withExtra 10 .dist23 x
  | 24 => withExtra 11 .dist24 x
  | 25 => withExtra 11 .dist25 x
  | 26 => withExtra 12 .dist26 x
  | 27 => withExtra 12 .dist27 x
  | 28 => withExtra 13 .dist28 x
  | 29 => withExtra 13 .dist29 x
  | 30 => bare .distInvalid30 x
  | 31 => bare .distInvalid31 x
  | s => .error (.noSuchSymbol s)

/-- Slot `k` of a token word. -/
def slotOf (w k : Nat) : Slot := BitVec.ofNat 16 (w / 2 ^ (16 * k))

/-- R120 to R123: below 256 a literal, 256 the end marker, above it a match of six slots. -/
def decodeToken (w : Nat) : Except DecodeError Instr :=
  let slot0 := w % 2 ^ 16
  let rest := w / 2 ^ 16
  if slot0 < 256 then bare (.tLit (BitVec.ofNat 8 slot0)) rest
  else if slot0 = 256 then bare .tEob rest
  else if slot0 < 512 then
    if w < 2 ^ 96 then
      .ok (.tMatch (BitVec.ofNat 8 slot0) (slotOf w 1) (slotOf w 2) (slotOf w 3) (slotOf w 4) (slotOf w 5))
    else .error (.excessBits w)
  else .error (.badToken slot0)

/-- R126: the code length is bits 31..16, the symbol bits 15..0. -/
def decodeDte (w : Nat) : Except DecodeError Instr :=
  if w < 2 ^ 32 then .ok (.dte (BitVec.ofNat 16 (w / 2 ^ 16)) (BitVec.ofNat 16 w)) else .error (.excessBits w)

/-- The decoder. -/
def decode (r : Raw) : Except DecodeError Instr :=
  match r.format with
  | .cmd => decodeCmd r.word r.ops
  | .blkHdr => decodeBlkHdr r.word
  | .stored => decodeStored r.word
  | .dynHdr => decodeDynHdr r.word
  | .clSym => decodeClSym r.word
  | .litLen => decodeLitLen r.word
  | .dist => decodeDist r.word
  | .token => decodeToken r.word
  | .dte => decodeDte r.word

/-- Slots as one number, slot 0 lowest. -/
def slotsWord : List Nat → Nat
  | [] => 0
  | s :: rest => s + 2 ^ 16 * slotsWord rest

/-- The encoder: the format, the bits and the operands of an instruction, from the same tables. -/
def encode : Instr → Raw
  | .reset => ⟨.cmd, 0x0000, {}⟩
  | .bwInit => ⟨.cmd, 0x0001, {}⟩
  | .bwWrite v n r => ⟨.cmd, 0x0002, { value := v, n := n, reversed := r }⟩
  | .bwFinish => ⟨.cmd, 0x0003, {}⟩
  | .brInit => ⟨.cmd, 0x0008, {}⟩
  | .brRead n => ⟨.cmd, 0x0009, { n := n }⟩
  | .brDecode t => ⟨.cmd, 0x000A, { table := t }⟩
  | .brAlign => ⟨.cmd, 0x000B, {}⟩
  | .brSave => ⟨.cmd, 0x000C, {}⟩
  | .brRestore => ⟨.cmd, 0x000D, {}⟩
  | .htbBuild a => ⟨.cmd, 0x0010, { source := a }⟩
  | .lzmRun => ⟨.cmd, 0x0018, {}⟩
  | .ccbLengths a l => ⟨.cmd, 0x0020, { source := a, limit := l }⟩
  | .ccbCodes a => ⟨.cmd, 0x0021, { source := a }⟩
  | .ccbRle q => ⟨.cmd, 0x0022, { seq := q }⟩
  | .encStored => ⟨.cmd, 0x0028, {}⟩
  | .encFixed => ⟨.cmd, 0x0128, {}⟩
  | .encDynamic => ⟨.cmd, 0x0228, {}⟩
  | .decBlock => ⟨.cmd, 0x0030, {}⟩
  | .decAdaptive => ⟨.cmd, 0x0130, {}⟩
  | .sdecInit => ⟨.cmd, 0x0038, {}⟩
  | .sdecCall c f => ⟨.cmd, 0x0039, { chunk := c, startOffset := f }⟩
  | .rdConsumed => ⟨.cmd, 0x003A, {}⟩
  | .blockStored f => ⟨.blkHdr, f.toNat + 0, {}⟩
  | .blockFixed f => ⟨.blkHdr, f.toNat + 2, {}⟩
  | .blockDynamic f => ⟨.blkHdr, f.toNat + 4, {}⟩
  | .blockReserved f => ⟨.blkHdr, f.toNat + 6, {}⟩
  | .lit b => ⟨.litLen, b.toNat, {}⟩
  | .eob => ⟨.litLen, 256, {}⟩
  | .len257 => ⟨.litLen, 257, {}⟩
  | .len258 => ⟨.litLen, 258, {}⟩
  | .len259 => ⟨.litLen, 259, {}⟩
  | .len260 => ⟨.litLen, 260, {}⟩
  | .len261 => ⟨.litLen, 261, {}⟩
  | .len262 => ⟨.litLen, 262, {}⟩
  | .len263 => ⟨.litLen, 263, {}⟩
  | .len264 => ⟨.litLen, 264, {}⟩
  | .len265 x => ⟨.litLen, 265 + 512 * x.toNat, {}⟩
  | .len266 x => ⟨.litLen, 266 + 512 * x.toNat, {}⟩
  | .len267 x => ⟨.litLen, 267 + 512 * x.toNat, {}⟩
  | .len268 x => ⟨.litLen, 268 + 512 * x.toNat, {}⟩
  | .len269 x => ⟨.litLen, 269 + 512 * x.toNat, {}⟩
  | .len270 x => ⟨.litLen, 270 + 512 * x.toNat, {}⟩
  | .len271 x => ⟨.litLen, 271 + 512 * x.toNat, {}⟩
  | .len272 x => ⟨.litLen, 272 + 512 * x.toNat, {}⟩
  | .len273 x => ⟨.litLen, 273 + 512 * x.toNat, {}⟩
  | .len274 x => ⟨.litLen, 274 + 512 * x.toNat, {}⟩
  | .len275 x => ⟨.litLen, 275 + 512 * x.toNat, {}⟩
  | .len276 x => ⟨.litLen, 276 + 512 * x.toNat, {}⟩
  | .len277 x => ⟨.litLen, 277 + 512 * x.toNat, {}⟩
  | .len278 x => ⟨.litLen, 278 + 512 * x.toNat, {}⟩
  | .len279 x => ⟨.litLen, 279 + 512 * x.toNat, {}⟩
  | .len280 x => ⟨.litLen, 280 + 512 * x.toNat, {}⟩
  | .len281 x => ⟨.litLen, 281 + 512 * x.toNat, {}⟩
  | .len282 x => ⟨.litLen, 282 + 512 * x.toNat, {}⟩
  | .len283 x => ⟨.litLen, 283 + 512 * x.toNat, {}⟩
  | .len284 x => ⟨.litLen, 284 + 512 * x.toNat, {}⟩
  | .len285 => ⟨.litLen, 285, {}⟩
  | .llInvalid286 => ⟨.litLen, 286, {}⟩
  | .llInvalid287 => ⟨.litLen, 287, {}⟩
  | .dist0 => ⟨.dist, 0, {}⟩
  | .dist1 => ⟨.dist, 1, {}⟩
  | .dist2 => ⟨.dist, 2, {}⟩
  | .dist3 => ⟨.dist, 3, {}⟩
  | .dist4 x => ⟨.dist, 4 + 32 * x.toNat, {}⟩
  | .dist5 x => ⟨.dist, 5 + 32 * x.toNat, {}⟩
  | .dist6 x => ⟨.dist, 6 + 32 * x.toNat, {}⟩
  | .dist7 x => ⟨.dist, 7 + 32 * x.toNat, {}⟩
  | .dist8 x => ⟨.dist, 8 + 32 * x.toNat, {}⟩
  | .dist9 x => ⟨.dist, 9 + 32 * x.toNat, {}⟩
  | .dist10 x => ⟨.dist, 10 + 32 * x.toNat, {}⟩
  | .dist11 x => ⟨.dist, 11 + 32 * x.toNat, {}⟩
  | .dist12 x => ⟨.dist, 12 + 32 * x.toNat, {}⟩
  | .dist13 x => ⟨.dist, 13 + 32 * x.toNat, {}⟩
  | .dist14 x => ⟨.dist, 14 + 32 * x.toNat, {}⟩
  | .dist15 x => ⟨.dist, 15 + 32 * x.toNat, {}⟩
  | .dist16 x => ⟨.dist, 16 + 32 * x.toNat, {}⟩
  | .dist17 x => ⟨.dist, 17 + 32 * x.toNat, {}⟩
  | .dist18 x => ⟨.dist, 18 + 32 * x.toNat, {}⟩
  | .dist19 x => ⟨.dist, 19 + 32 * x.toNat, {}⟩
  | .dist20 x => ⟨.dist, 20 + 32 * x.toNat, {}⟩
  | .dist21 x => ⟨.dist, 21 + 32 * x.toNat, {}⟩
  | .dist22 x => ⟨.dist, 22 + 32 * x.toNat, {}⟩
  | .dist23 x => ⟨.dist, 23 + 32 * x.toNat, {}⟩
  | .dist24 x => ⟨.dist, 24 + 32 * x.toNat, {}⟩
  | .dist25 x => ⟨.dist, 25 + 32 * x.toNat, {}⟩
  | .dist26 x => ⟨.dist, 26 + 32 * x.toNat, {}⟩
  | .dist27 x => ⟨.dist, 27 + 32 * x.toNat, {}⟩
  | .dist28 x => ⟨.dist, 28 + 32 * x.toNat, {}⟩
  | .dist29 x => ⟨.dist, 29 + 32 * x.toNat, {}⟩
  | .distInvalid30 => ⟨.dist, 30, {}⟩
  | .distInvalid31 => ⟨.dist, 31, {}⟩
  | .cl0 => ⟨.clSym, 0, {}⟩
  | .cl1 => ⟨.clSym, 1, {}⟩
  | .cl2 => ⟨.clSym, 2, {}⟩
  | .cl3 => ⟨.clSym, 3, {}⟩
  | .cl4 => ⟨.clSym, 4, {}⟩
  | .cl5 => ⟨.clSym, 5, {}⟩
  | .cl6 => ⟨.clSym, 6, {}⟩
  | .cl7 => ⟨.clSym, 7, {}⟩
  | .cl8 => ⟨.clSym, 8, {}⟩
  | .cl9 => ⟨.clSym, 9, {}⟩
  | .cl10 => ⟨.clSym, 10, {}⟩
  | .cl11 => ⟨.clSym, 11, {}⟩
  | .cl12 => ⟨.clSym, 12, {}⟩
  | .cl13 => ⟨.clSym, 13, {}⟩
  | .cl14 => ⟨.clSym, 14, {}⟩
  | .cl15 => ⟨.clSym, 15, {}⟩
  | .cl16 x => ⟨.clSym, 16 + 32 * x.toNat, {}⟩
  | .cl17 x => ⟨.clSym, 17 + 32 * x.toNat, {}⟩
  | .cl18 x => ⟨.clSym, 18 + 32 * x.toNat, {}⟩
  | .dynHdr l d c => ⟨.dynHdr, l.toNat + 2 ^ 5 * d.toNat + 2 ^ 10 * c.toNat, {}⟩
  | .storedHdr len nlen => ⟨.stored, len.toNat + 2 ^ 16 * nlen.toNat, {}⟩
  | .tLit b => ⟨.token, b.toNat, {}⟩
  | .tEob => ⟨.token, 256, {}⟩
  | .tMatch lc le lv dc de dv =>
    ⟨.token, slotsWord [256 + lc.toNat, le.toNat, lv.toNat, dc.toNat, de.toNat, dv.toNat], {}⟩
  | .dte cl sym => ⟨.dte, sym.toNat + 2 ^ 16 * cl.toNat, {}⟩

/-- How many bits the encoded word of an instruction has (for a symbol: 9 or 5 bits and its extra field). -/
def wordBits : Instr → Nat
  | .reset => 16
  | .bwInit => 16
  | .bwWrite _ _ _ => 16
  | .bwFinish => 16
  | .brInit => 16
  | .brRead _ => 16
  | .brDecode _ => 16
  | .brAlign => 16
  | .brSave => 16
  | .brRestore => 16
  | .htbBuild _ => 16
  | .lzmRun => 16
  | .ccbLengths _ _ => 16
  | .ccbCodes _ => 16
  | .ccbRle _ => 16
  | .encStored => 16
  | .encFixed => 16
  | .encDynamic => 16
  | .decBlock => 16
  | .decAdaptive => 16
  | .sdecInit => 16
  | .sdecCall _ _ => 16
  | .rdConsumed => 16
  | .blockStored _ => 3
  | .blockFixed _ => 3
  | .blockDynamic _ => 3
  | .blockReserved _ => 3
  | .lit _ => 9
  | .eob => 9
  | .len257 => 9
  | .len258 => 9
  | .len259 => 9
  | .len260 => 9
  | .len261 => 9
  | .len262 => 9
  | .len263 => 9
  | .len264 => 9
  | .len265 _ => 10
  | .len266 _ => 10
  | .len267 _ => 10
  | .len268 _ => 10
  | .len269 _ => 11
  | .len270 _ => 11
  | .len271 _ => 11
  | .len272 _ => 11
  | .len273 _ => 12
  | .len274 _ => 12
  | .len275 _ => 12
  | .len276 _ => 12
  | .len277 _ => 13
  | .len278 _ => 13
  | .len279 _ => 13
  | .len280 _ => 13
  | .len281 _ => 14
  | .len282 _ => 14
  | .len283 _ => 14
  | .len284 _ => 14
  | .len285 => 9
  | .llInvalid286 => 9
  | .llInvalid287 => 9
  | .dist0 => 5
  | .dist1 => 5
  | .dist2 => 5
  | .dist3 => 5
  | .dist4 _ => 6
  | .dist5 _ => 6
  | .dist6 _ => 7
  | .dist7 _ => 7
  | .dist8 _ => 8
  | .dist9 _ => 8
  | .dist10 _ => 9
  | .dist11 _ => 9
  | .dist12 _ => 10
  | .dist13 _ => 10
  | .dist14 _ => 11
  | .dist15 _ => 11
  | .dist16 _ => 12
  | .dist17 _ => 12
  | .dist18 _ => 13
  | .dist19 _ => 13
  | .dist20 _ => 14
  | .dist21 _ => 14
  | .dist22 _ => 15
  | .dist23 _ => 15
  | .dist24 _ => 16
  | .dist25 _ => 16
  | .dist26 _ => 17
  | .dist27 _ => 17
  | .dist28 _ => 18
  | .dist29 _ => 18
  | .distInvalid30 => 5
  | .distInvalid31 => 5
  | .cl0 => 5
  | .cl1 => 5
  | .cl2 => 5
  | .cl3 => 5
  | .cl4 => 5
  | .cl5 => 5
  | .cl6 => 5
  | .cl7 => 5
  | .cl8 => 5
  | .cl9 => 5
  | .cl10 => 5
  | .cl11 => 5
  | .cl12 => 5
  | .cl13 => 5
  | .cl14 => 5
  | .cl15 => 5
  | .cl16 _ => 7
  | .cl17 _ => 8
  | .cl18 _ => 12
  | .dynHdr _ _ _ => 14
  | .storedHdr _ _ => 32
  | .tLit _ => 16
  | .tEob => 16
  | .tMatch _ _ _ _ _ _ => 96
  | .dte _ _ => 32

/-- The formats a table word of `nbits` bits can be of, in the order they are tried. The table's formats share words (a
host command, a literal and a token are each 16 bits), so a word alone does not name its row; a 32-bit word in the ranges
of R126 is a decode-table entry, any other a stored header (log 14). -/
def tableFormats (nbits w : Nat) : List Format :=
  if nbits ≤ 8 then [.dist, .clSym, .blkHdr]
  else if nbits ≤ 16 then [.cmd, .litLen, .token, .dynHdr, .dist, .clSym]
  else if nbits ≤ 24 then [.dist]
  else if nbits ≤ 32 then (if w / 2 ^ 16 ≤ 15 ∧ w % 2 ^ 16 ≤ 287 then [.dte] else [.stored])
  else [.token]

/-- The first format of the list under which the word decodes. -/
def firstDecoding (w : Nat) : List Format → Option Instr
  | [] => none
  | f :: fs =>
    match decode ⟨f, w, {}⟩ with
    | .ok i => some i
    | .error _ => firstDecoding w fs

/-- The instruction the decoder reads from a word of the opcode table (log 14). -/
def decodeTableWord (nbits w : Nat) : Option Instr := firstDecoding w (tableFormats nbits w)

end Sys2Proof
end

