-- ==== Sys2Proof/Machine/State.lean ====
section
/-! DEFINITION. The state of one instance of the core (10_state.md), as plain data, and its value after reset (R41, R370). -/

namespace Sys2Proof.Machine

/-- A byte memory (IN, OUT): (address, byte) cells, addresses strictly rising; an unlisted address holds no byte
(log 21). -/
abbrev Memory := List Host.Cell

/-- The fault codes of R331; no fault is `none` in STATUS. -/
inductive FaultCode where
  | eBtype
  | eLenVerify
  | eCode
  | eTruncated
  | eOverflow
  | eApi
  | eHeader
  | eSymbol
  | eDistance
deriving DecidableEq, Repr, Inhabited

/-- STATUS (R32, R33). -/
structure Status where
  fault     : Option FaultCode
  faultInfo : Nat
  done      : Bool
  needInput : Bool
deriving DecidableEq, Repr

/-- CFG.blockType (R131). -/
inductive BlockType where
  | stored
  | fixed
  | dynamic
deriving DecidableEq, Repr, Inhabited

/-- CFG.bufferStrategy (R131). -/
inductive BufferStrategy where
  | block
  | adaptive
deriving DecidableEq, Repr, Inhabited

/-- CFG, written by the host before a command, read-only to the core (R35). -/
structure Cfg where
  blockType      : Option BlockType
  lazy           : Nat
  outputBuffer   : Option (List Byte)
  outputOffset   : Nat
  startOffset    : Nat
  bufferSize     : Nat
  bufferStrategy : BufferStrategy
  resize         : Bool
  growth         : Option Config.GrowthOverride
deriving DecidableEq, Repr, Inhabited

/-- The defaults of R36. -/
def Cfg.default (p : Config.Params) : Cfg :=
  { blockType := none, lazy := 0, outputBuffer := none, outputOffset := 0, startOffset := 0,
    bufferSize := p.defaultBufferSize, bufferStrategy := .adaptive, resize := false, growth := none }

/-- The BitWriter (R21): its buffer is space OUT. -/
structure Writer where
  out       : Memory
  byteIndex : Nat
  bitIndex  : Nat
  current   : Byte
  isOpen    : Bool
deriving DecidableEq, Repr, Inhabited

/-- A reader cursor, "(inputByteIndex, bitAccumulator, bitAccumulatorLength)" (R22, R23). -/
structure Cursor where
  ip     : Nat
  acc    : Nat
  acclen : Nat
deriving DecidableEq, Repr, Inhabited

/-- The BitReader (R22) with its saved cursor (R23). -/
structure Reader where
  ip          : Nat
  acc         : Nat
  acclen      : Nat
  inputLength : Nat
  save        : Cursor
  saved       : Bool
deriving DecidableEq, Repr, Inhabited

/-- The working registers of HTB.BUILD (R24). -/
structure Builder where
  code      : Nat
  bitLength : Nat
deriving DecidableEq, Repr, Inhabited

/-- The Lz77Matcher's registers (R25); LZM.tokCount is the length of TOK. -/
structure Matcher where
  pos       : Nat
  skip      : Nat
  prevValid : Bool
  prevLen   : Nat
  prevDist  : Nat
  lazy      : Nat
deriving DecidableEq, Repr, Inhabited

/-- CHAIN (R26): keys strictly rising, no empty list; each list oldest first. -/
abbrev Chain := List (Nat × List Nat)

/-- A table memory of R37 and whether a command has written it since reset (R380). -/
structure Table where
  written : Bool
  entries : List Nat
deriving DecidableEq, Repr, Inhabited

/-- One entry of `rle` (R37, R215). -/
structure RleEntry where
  symbol : Nat
  bits   : Nat
  value  : Nat
deriving DecidableEq, Repr, Inhabited

/-- The Encoder's registers (R28). -/
structure Enc where
  hlit     : Nat
  hdist    : Nat
  hclen    : Nat
  chunkPos : Nat
  tokIndex : Nat
deriving DecidableEq, Repr, Inhabited

/-- DEC.btype (R92). -/
inductive BType where
  | stored
  | fixed
  | dynamic
  | reserved
deriving DecidableEq, Repr, Inhabited

/-- The locals of ReadDynamicHeader (R270). -/
structure Header where
  hlit  : Nat
  hdist : Nat
  lens  : List Nat
deriving DecidableEq, Repr, Inhabited

/-- The decoder's registers (R29), the logical output O (R66) and the locals of a running decode (R270, R273). DEC.op is
the length of O. -/
structure Dec where
  bfinal   : Bool
  btype    : BType
  blockLen : Nat
  ll       : DecodeTable
  d        : DecodeTable
  cl       : DecodeTable
  blocks   : List (List Byte)
  out      : List Byte
  hdr      : Header
  matchLen : Nat
deriving DecidableEq, Repr, Inhabited

/-- The seven streaming states (R31). -/
inductive SdecState where
  | initialized
  | blockHeaderStart
  | blockHeaderEnd
  | blockBodyStart
  | blockBodyEnd
  | decodeBlockStart
  | decodeBlockEnd
deriving DecidableEq, Repr, Inhabited

/-- The StreamingDecoder's registers (R31). -/
structure Sdec where
  state   : SdecState
  sp      : Nat
  started : Bool
deriving DecidableEq, Repr, Inhabited

/-- Which command a running decode belongs to. -/
inductive Job where
  | block
  | adaptive
  | stream
deriving DecidableEq, Repr, Inhabited

/-- Which element of the bit stream stands at BR.P. -/
inductive Phase where
  | blkHdr
  | stored
  | dynHdr
  | clSym
  | litLen
  | dist
deriving DecidableEq, Repr, Inhabited

/-- Where in its pseudocode the running command is: "what stands for a program counter" (R30, R305). -/
inductive Seq where
  /-- no command runs; the next one is taken from the port (R371) -/
  | idle
  /-- BR.DECODE has found this table slot; its entry is executed next (R149) -/
  | lookup (index maxLen : Nat) (entry : Entry)
  /-- the packer: TOK[ENC.tokIndex] is executed next (R235) -/
  | pack
  /-- a decoder: the element at BR.P is executed next (R260, R305) -/
  | decode (job : Job) (phase : Phase)
deriving DecidableEq, Repr, Inhabited

/-- How much one step is: a whole command or one dispatch turn (R390; log 1). -/
inductive Grain where
  | command
  | turn
deriving DecidableEq, Repr, Inhabited

/-- A command as the host issues it (R376): the CFG it writes and the input it places in IN first, if any, the 16-bit word
and the operands beside it (R130). -/
structure Issue where
  cfg   : Option Cfg
  input : Option (List Byte)
  word  : BitVec 16
  ops   : CmdOps
deriving DecidableEq, Repr

/-- What a command returns beside its word (R130). -/
inductive Result where
  /-- no result (none is defined, or the command still runs) -/
  | none
  | value (v : Nat)
  | symbol (s : Nat)
  /-- EXHAUSTED (R148) -/
  | exhausted
  | bytes (bs : List Byte)
  | table (t : DecodeTable)
  | tokens (tok : List Slot) (freqLL freqD : List Nat)
  | lengths (l : List Nat)
  | codes (c : List Nat)
  | rle (entries : List RleEntry) (freqCL : List Nat)
  | consumed (n : Nat)
  /-- the command ended in a fault and returns nothing (R332) -/
  | failed (code : FaultCode) (info : Nat)
  /-- the command was refused; the recorded fault is reported again (R333) -/
  | refused (code : FaultCode) (info : Nat)
deriving DecidableEq, Repr

/-- The state of one instance (R20), with the model's own fields first. -/
structure State where
  /-- the named parameters (R11); no step changes them -/
  params  : Config.Params
  /-- the model's own: how much one step is (R390) -/
  grain   : Grain
  /-- the host's pending commands, oldest first (R376) -/
  port    : List Issue
  /-- the result of the last command (R130) -/
  result  : Result
  /-- the model's own: which free value is next -/
  freeCtr : Nat
  /-- the sequencer (R30) -/
  seq     : Seq
  status  : Status
  cfg     : Cfg
  /-- space IN (R63) -/
  inMem   : Memory
  /-- the model's own: IN still holds the bytes the reader was set up on (R76, R383) -/
  inKept  : Bool
  bw      : Writer
  br      : Reader
  htb     : Builder
  /-- the triples HTB.BUILD has made since reset (R380) -/
  built   : List DecodeTable
  lzm     : Matcher
  chain   : Chain
  /-- space TOK (R68) -/
  tok     : List Slot
  freqLL  : Table
  freqD   : Table
  freqCL  : Table
  lenLL   : Table
  lenD    : Table
  lenCL   : Table
  codeLL  : Table
  codeD   : Table
  codeCL  : Table
  rle     : List RleEntry
  enc     : Enc
  dec     : Dec
  sdec    : Sdec
deriving DecidableEq, Repr

/-- Why the machine stops. -/
inductive Fault where
  /-- IN no longer holds the bytes the reader was set up on: the host altered input it had supplied, which R76 and R383
  forbid and for which "the model has no move" (93_implementation_defined.md U9: stuck). Raised by BR.READ, BR.DECODE and
  SDEC.CALL. Safe: the model stops where the rules promise nothing. -/
  | inputWithdrawn
deriving DecidableEq, Repr

/-- Why an instruction has no meaning. -/
inductive Refusal where
  /-- An instruction whose arm of `exec` has no meaning yet. Raised by no arm of this model. Safe. -/
  | notModelled (mnemonic : String)
deriving DecidableEq, Repr

/-- Everything that a fault leaves unspecified (R332, U1): all registers, tables and memories but STATUS, CFG and ROM. -/
structure Work where
  inMem   : Memory
  bw      : Writer
  br      : Reader
  htb     : Builder
  built   : List DecodeTable
  lzm     : Matcher
  chain   : Chain
  tok     : List Slot
  freqLL  : Table
  freqD   : Table
  freqCL  : Table
  lenLL   : Table
  lenD    : Table
  lenCL   : Table
  codeLL  : Table
  codeD   : Table
  codeCL  : Table
  rle     : List RleEntry
  enc     : Enc
  dec     : Dec
  sdec    : Sdec
deriving Inhabited

/-- Free value (U1): the state a fault leaves. -/
opaque freeWork : Nat → Work

/-- The table of the empty code: one unfilled slot (D10). -/
def emptyTable : DecodeTable := { table := [0], maxLen := 0, minLen := 0 }

/-- A table memory that no command has written. -/
def Table.unwritten (n : Nat) : Table := { written := false, entries := List.replicate n 0 }

/-- A fresh instance with these parameters (R41, R370, R371). -/
def State.fresh (p : Config.Params) : State :=
  { params := p, grain := .command, port := [], result := .none, freeCtr := 0, seq := .idle
    status := { fault := none, faultInfo := 0, done := false, needInput := false }
    cfg := Cfg.default p
    inMem := [], inKept := true
    bw := { out := [], byteIndex := 0, bitIndex := 0, current := 0, isOpen := false }
    br := { ip := 0, acc := 0, acclen := 0, inputLength := 0, save := { ip := 0, acc := 0, acclen := 0 }, saved := false }
    htb := { code := 0, bitLength := 0 }
    built := []
    lzm := { pos := 0, skip := 0, prevValid := false, prevLen := 0, prevDist := 0, lazy := 0 }
    chain := [], tok := []
    freqLL := .unwritten 286, freqD := .unwritten 30, freqCL := .unwritten 19
    lenLL := .unwritten 286, lenD := .unwritten 30, lenCL := .unwritten 19
    codeLL := .unwritten 286, codeD := .unwritten 30, codeCL := .unwritten 19
    rle := []
    enc := { hlit := 0, hdist := 0, hclen := 0, chunkPos := 0, tokIndex := 0 }
    dec := { bfinal := false, btype := .stored, blockLen := 0, ll := emptyTable, d := emptyTable, cl := emptyTable
             blocks := [], out := [], hdr := { hlit := 0, hdist := 0, lens := [] }, matchLen := 0 }
    sdec := { state := .initialized, sp := 0, started := false } }

/-- The machine right after reset. -/
def State.reset : State := State.fresh .reference

end Sys2Proof.Machine
end

