-- ==== Sys2Proof/Machine/Ops.lean ====
section
/-! DEFINITION. The named operations over memory and registers: byte memories, bit reversal, the writer's and the reader's
steps, taking a fault, refusing, suspending. An operation that may end the command answers `Act`: `.error s` when the
command or turn is over in `s`, `.ok` when it goes on. -/

namespace Sys2Proof.Machine

/-- The outcome of a step of this machine. -/
abbrev Outcome := Host.Outcome State Fault Refusal

/-- An operation inside a command: `.error s`, the command (or turn) is over in state `s`; `.ok a`, it goes on. -/
abbrev Act (α : Type) := Except State α

/-- The step that ends with an operation: the next state, over or not. -/
def conclude : Act State → Outcome
  | .ok s => .next s
  | .error s => .next s

/-! ## Names of R25, R29, R22, R34, R331 -/

/-- LZM.tokCount (R25): the number of slots written to TOK. -/
def State.tokCount (s : State) : Nat := s.tok.length

/-- DEC.op (R29, R66): the length of O. -/
def Dec.op (d : Dec) : Nat := d.out.length

/-- BR.P, the logical bit position (R22, R146). -/
def Reader.pos (r : Reader) : Nat := 8 * r.ip - r.acclen

/-- bytesConsumed = ceil(BR.P / 8) (R34). -/
def State.bytesConsumed (s : State) : Nat := (s.br.pos + 7) / 8

/-- The number of a fault code (R331). -/
def FaultCode.number : FaultCode → Nat
  | .eBtype => 1
  | .eLenVerify => 2
  | .eCode => 3
  | .eTruncated => 4
  | .eOverflow => 5
  | .eApi => 6
  | .eHeader => 7
  | .eSymbol => 8
  | .eDistance => 9

/-! ## Byte memories (R63, R72) -/

/-- The canonical form: addresses strictly rising. -/
def Memory.wf (m : Memory) : Bool := decide ((m.map Prod.fst).Pairwise (· < ·))

/-- The byte at an address; none where the memory holds no byte. -/
def Memory.read (a : Nat) : Memory → Option Byte
  | [] => none
  | (b, v) :: rest => if b = a then some v else Memory.read a rest

/-- MemWrite of one byte. -/
def Memory.write (a : Nat) (v : Byte) : Memory → Memory
  | [] => [(a, v)]
  | (b, w) :: rest =>
    if a < b then (a, v) :: (b, w) :: rest
    else if a = b then (a, v) :: rest
    else (b, w) :: Memory.write a v rest

/-- Bytes laid at consecutive addresses from `a`. -/
def Memory.ofBytes (a : Nat) : List Byte → Memory
  | [] => []
  | b :: bs => (a, b) :: Memory.ofBytes (a + 1) bs

/-- Bytes written one after another from `a`. -/
def Memory.writeBytes (a : Nat) : List Byte → Memory → Memory
  | [], m => m
  | b :: bs, m => Memory.writeBytes (a + 1) bs (m.write a b)

/-- The cells below an address. -/
def Memory.below (a : Nat) (m : Memory) : Memory := m.filter fun c => decide (c.1 < a)

/-- The canonical memory that cells describe, later cells winning. -/
def Memory.ofCells (cells : List Host.Cell) : Memory := cells.foldl (fun m c => m.write c.1 c.2) []

/-- The bytes of a memory in address order: for IN, the input. -/
def Memory.bytes (m : Memory) : List Byte := m.map Prod.snd

/-! ## Bits -/

/-- `rev_n(v)`, the n-bit reversal (R14). -/
def revBits : Nat → Nat → Nat
  | 0, _ => 0
  | n + 1, v => v % 2 * 2 ^ n + revBits n (v / 2)

/-- REV8 (R38). -/
def rev8 (b : Byte) : Byte := BitVec.ofNat 8 (revBits 8 b.toNat)

/-! ## Taking a fault, refusing (R332, R333) -/

/-- Everything unspecified after a fault takes a free value; a byte memory takes a free memory in canonical form (U1). -/
def State.unspecified (s : State) : State :=
  let w := freeWork s.freeCtr
  { s with
    freeCtr := s.freeCtr + 1
    inMem := Memory.ofCells w.inMem
    bw := { w.bw with out := Memory.ofCells w.bw.out }
    br := w.br, htb := w.htb, built := w.built, lzm := w.lzm, chain := w.chain, tok := w.tok
    freqLL := w.freqLL, freqD := w.freqD, freqCL := w.freqCL
    lenLL := w.lenLL, lenD := w.lenD, lenCL := w.lenCL
    codeLL := w.codeLL, codeD := w.codeD, codeCL := w.codeCL
    rle := w.rle, enc := w.enc, dec := w.dec, sdec := w.sdec }

/-- STATUS records the fault, the command ends and returns nothing (R332). -/
def record (f : FaultCode) (info : Nat) (s : State) : State :=
  { s with
    status := { fault := some f, faultInfo := info, done := false, needInput := false }
    result := .failed f info
    seq := .idle }

/-- `raise F(info)`: taking a fault (R332). What the rules leave unspecified is free (U1). -/
def raise (f : FaultCode) (info : Nat) (s : State) : State := record f info s.unspecified

/-- An illegal command word: E_API, "state otherwise unchanged" (U14). -/
def raiseUnchanged (info : Nat) (s : State) : State := record .eApi info s

/-- A refused command changes nothing and reports the recorded fault again (R333). -/
def refuse (f : FaultCode) (s : State) : State := { s with result := .refused f s.status.faultInfo }

/-! ## The writer (R141, R142, R144) -/

/-- One turn of the loop of BW.WRITE: append one bit to W. -/
def Writer.pushBit (w : Writer) (bit : Bool) : Writer :=
  let current := (w.current <<< 1) ||| BitVec.ofNat 8 bit.toNat
  if w.bitIndex + 1 = 8 then
    { w with out := w.out.write w.byteIndex (rev8 current), byteIndex := w.byteIndex + 1, bitIndex := 0, current := 0 }
  else { w with bitIndex := w.bitIndex + 1, current := current }

/-- Append `v[n-1], ..., v[0]` to W (R142). -/
def Writer.pushBits (v : Nat) : Nat → Writer → Writer
  | 0, w => w
  | n + 1, w => Writer.pushBits v n (w.pushBit (v.testBit n))

/-- BW.WRITE (R142). -/
def bwWrite (value n : Nat) (reversed : Bool) (s : State) : Act State :=
  if s.bw.isOpen ∧ n ≤ 32 ∧ value < 2 ^ n then
    .ok { s with bw := s.bw.pushBits (if reversed then revBits n value else value) n }
  else .error (raise .eApi n s)

/-- BW.INIT (R140): OUT holds the bytes of CFG.outputBuffer. DESIGN CHOICE (log 26): CFG holds the caller's buffer by value, so
where the host leaves CFG as it is after a command, the next BW.INIT starts again from the bytes the host first passed; R386
says only that the old handle's buffer may have been replaced. -/
def bwInit (s : State) : State :=
  { s with bw := { out := Memory.ofBytes 0 (s.cfg.outputBuffer.getD []), byteIndex := s.cfg.outputOffset, bitIndex := 0
                   current := 0, isOpen := true } }

/-- The partial last byte goes out, its missing bits zero (R144). -/
def Writer.flush (w : Writer) : Writer :=
  if w.bitIndex > 0 then
    { w with out := w.out.write w.byteIndex (rev8 (w.current <<< (8 - w.bitIndex))), byteIndex := w.byteIndex + 1
             bitIndex := 0, current := 0 }
  else w

/-- MemRead(OUT, a, n): a byte that nothing has filled is free (U5, log 8). -/
def outBytes (ctr : Nat) (m : Memory) (a : Nat) : Nat → List Byte
  | 0 => []
  | n + 1 => (m.read a).getD (Config.freeByte ctr a) :: outBytes ctr m (a + 1) n

/-- BW.FINISH (R144): the bytes 0 .. BW.byteIndex-1 of OUT, and the writer closed. -/
def bwFinish (s : State) : Act (List Byte × State) :=
  if s.bw.isOpen then
    let w := s.bw.flush
    .ok (outBytes s.freeCtr w.out 0 w.byteIndex, { s with bw := { w with isOpen := false }, freeCtr := s.freeCtr + 1 })
  else .error (raise .eApi 0 s)

/-! ## The reader (R145 to R152) -/

/-- The loop that loads bytes until `n` bits are held or the input is out (R147, R149). The first argument is fuel: the
loop turns at most `n` times, since every turn loads 8 bits. -/
def Reader.refill (inMem : Memory) (n : Nat) : Nat → Reader → Reader
  | 0, r => r
  | fuel + 1, r =>
    if r.acclen < n ∧ r.ip < r.inputLength then
      match inMem.read r.ip with
      | some b =>
        Reader.refill inMem n fuel
          { r with acc := r.acc ||| (b.toNat <<< r.acclen), acclen := r.acclen + 8, ip := r.ip + 1 }
      | none => r
    else r

/-- Consume `n` bits held in the accumulator. -/
def Reader.drop (n : Nat) (r : Reader) : Reader := { r with acc := r.acc >>> n, acclen := r.acclen - n }

/-- BR.SAVE (R151). -/
def Reader.keep (r : Reader) : Reader := { r with save := { ip := r.ip, acc := r.acc, acclen := r.acclen }, saved := true }

/-- BR.RESTORE (R152). -/
def Reader.back (r : Reader) : Reader := { r with ip := r.save.ip, acc := r.save.acc, acclen := r.save.acclen }

/-- BR.ALIGN (R150). -/
def Reader.align (r : Reader) : Reader := r.drop (r.acclen % 8)

/-- BR.INIT on the bytes IN holds (R145). -/
def brInit (s : State) : Act State :=
  if s.cfg.startOffset ≤ s.inMem.length then
    .ok { s with
          br := { s.br with ip := s.cfg.startOffset, acc := 0, acclen := 0, inputLength := s.inMem.length }
          inKept := true }
  else .error (raise .eApi s.cfg.startOffset s)

/-- A streaming call returns what is new in O (R302, R310) and is over. -/
def deliver (s : State) : State :=
  { s with result := .bytes (s.dec.out.drop s.sdec.sp), sdec := { s.sdec with sp := s.dec.op }, seq := .idle }

/-- `suspend NEED_INPUT` without a retry: the call ends, waiting (R303, R305, R340). -/
def needInput (s : State) : State := deliver { s with status := { s.status with needInput := true } }

/-- `suspend NEED_INPUT` out of a try: the saved cursor comes back, the step's locals are discarded (R304). -/
def suspend (s : State) : State :=
  needInput { s with br := s.br.back, dec := { s.dec with hdr := { hlit := 0, hdist := 0, lens := [] }, matchLen := 0 } }

/-- What input exhaustion turns into, depending on who asked (R148, R338, R341): E_TRUNCATED in DEC.*, NEED_INPUT in
SDEC.CALL, the outcome EXHAUSTED for the host's own BR command. -/
def exhausted (s : State) : State :=
  match s.seq with
  | .decode .stream _ => suspend s
  | .decode _ _ => raise .eTruncated s.br.pos s
  | _ => { s with status := { s.status with needInput := true }, result := .exhausted, seq := .idle }

/-- BR.READ (R147), for n up to 16. -/
def readBits (n : Nat) (s : State) : Act (Nat × State) :=
  let r := s.br.refill s.inMem n n
  if r.acclen < n then .error (exhausted { s with br := r })
  else .ok (r.acc % 2 ^ n, { s with br := r.drop n })

/-- The entry a decode has found is executed (R149): an unfilled slot is E_CODE, or EXHAUSTED while bits are missing; a
filled one consumes its code length. -/
def consumeEntry (index maxLen codeLength symbol : Nat) (s : State) : Act (Nat × State) :=
  if codeLength = 0 then
    if s.br.acclen < maxLen then .error (exhausted s) else .error (raise .eCode index s)
  else if codeLength > s.br.acclen then .error (exhausted s)
  else .ok (symbol, { s with br := s.br.drop codeLength })

/-- `entry[31:16]`, the code length (R126). -/
def entryLength (e : Entry) : Nat := e.toNat / 2 ^ 16

/-- `entry[15:0]`, the symbol (R126). -/
def entrySymbol (e : Entry) : Nat := e.toNat % 2 ^ 16

/-- `(codeLength ≪ 16) | symbol` (R126). -/
def mkEntry (codeLength symbol : Nat) : Entry := BitVec.ofNat 32 (codeLength * 2 ^ 16 + symbol)

/-- The first half of BR.DECODE: load, and index the table with the next `maxLen` bits, missing ones read as 0 (R149). -/
def lookupEntry (t : DecodeTable) (s : State) : Nat × Entry × State :=
  let r := s.br.refill s.inMem t.maxLen t.maxLen
  let index := r.acc % 2 ^ t.maxLen
  (index, t.table.getD index 0, { s with br := r })

/-- BR.DECODE through a table (R149). -/
def readSymbol (t : DecodeTable) (s : State) : Act (Nat × State) :=
  let (index, e, s) := lookupEntry t s
  consumeEntry index t.maxLen (entryLength e) (entrySymbol e) s

end Sys2Proof.Machine
end

