-- ==== Sys2Proof/Machine/Flags.lean ====
section
/-! DEFINITION. STATUS: the frame every command runs in (R32, R375) and the end of a command. -/

namespace Sys2Proof.Machine

/-- R375: what a command clears when it begins; only ENC.* and DEC.* clear `done`. No result stands yet. -/
def beginCommand (clearsDone : Bool) (s : State) : State :=
  { s with
    status := { s.status with needInput := false, done := if clearsDone then false else s.status.done }
    result := .none }

/-- The frame of every command but RESET and RD.CONSUMED (R333, R375): refused while a fault is recorded. -/
def framed (clearsDone : Bool) (s : State) (body : State → Outcome) : Outcome :=
  match s.status.fault with
  | some f => .next (refuse f s)
  | none => body (beginCommand clearsDone s)

/-- A command is over with this result. -/
def answer (r : Result) (s : State) : State := { s with result := r, seq := .idle }

/-- A top-level command is over: STATUS.done, and its bytes (R231, R260). -/
def answerDone (bs : List Byte) (s : State) : State :=
  { s with status := { s.status with done := true }, result := .bytes bs, seq := .idle }

end Sys2Proof.Machine
end

