-- ==== Sys2Proof/Machine/Operands.lean ====
section
/-! DEFINITION. Operand forms: the base/extra tables and the assembly of lengths and distances (R100 to R107), the
fixed code lengths and CL_ORDER (R38), the table operands of the table-passing commands (R380). -/

namespace Sys2Proof.Machine

/-- LEN_BASE (R105). -/
def lenBase : List Nat :=
  [3, 4, 5, 6, 7, 8, 9, 10, 11, 13, 15, 17, 19, 23, 27, 31, 35, 43, 51, 59, 67, 83, 99, 115, 131, 163, 195, 227, 258]

/-- LEN_EXTRA (R105). -/
def lenExtra : List Nat :=
  [0, 0, 0, 0, 0, 0, 0, 0, 1, 1, 1, 1, 2, 2, 2, 2, 3, 3, 3, 3, 4, 4, 4, 4, 5, 5, 5, 5, 0]

/-- DIST_BASE (R106). -/
def distBase : List Nat :=
  [1, 2, 3, 4, 5, 7, 9, 13, 17, 25, 33, 49, 65, 97, 129, 193, 257, 385, 513, 769, 1025, 1537, 2049, 3073, 4097, 6145,
    8193, 12289, 16385, 24577]

/-- DIST_EXTRA (R106). -/
def distExtra : List Nat :=
  [0, 0, 0, 0, 1, 1, 2, 2, 3, 3, 4, 4, 5, 5, 6, 6, 7, 7, 8, 8, 9, 9, 10, 10, 11, 11, 12, 12, 13, 13]

/-- CL_ORDER (R9). -/
def clOrder : List Nat := [16, 17, 18, 0, 8, 7, 9, 6, 10, 5, 11, 4, 12, 3, 13, 2, 14, 1, 15]

/-- The fixed literal/length code lengths (R38, R112). -/
def fixedLitLens : List Nat :=
  List.replicate 144 8 ++ List.replicate 112 9 ++ List.replicate 24 7 ++ List.replicate 8 8

/-- The fixed distance code lengths (R38, R45). -/
def fixedDistLens : List Nat := List.replicate 30 5

/-- How many extra bits follow a literal/length symbol (R97). -/
def litLenExtra (symbol : Nat) : Nat := if symbol < 257 then 0 else lenExtra.getD (symbol - 257) 0

/-- How many extra bits follow a distance symbol (R97). -/
def distSymbolExtra (symbol : Nat) : Nat := distExtra.getD symbol 0

/-- How many extra bits follow a code-length symbol (R96); a 16 with nothing before it is a fault before its extra bits
are read (R270). -/
def clSymbolExtra (symbol : Nat) (lens : List Nat) : Nat :=
  if symbol = 16 then (if lens.isEmpty then 0 else 2)
  else if symbol = 17 then 3
  else if symbol = 18 then 7
  else 0

/-- The last row whose base does not exceed `v` (R107). -/
def lastRow (bases : List Nat) (v : Nat) : Nat := (bases.takeWhile (· ≤ v)).length - 1

/-- (length-code, extra-bit count, extra value) of a match length (R107). -/
def lengthToken (l : Nat) : Nat × Nat × Nat :=
  let c := lastRow lenBase l
  (257 + c, lenExtra.getD c 0, l - lenBase.getD c 0)

/-- (distance-code, extra-bit count, extra value) of a match distance (R107). -/
def distToken (d : Nat) : Nat × Nat × Nat :=
  let c := lastRow distBase d
  (c, distExtra.getD c 0, d - distBase.getD c 0)

/-! ## Table operands (R380) -/

/-- The frequency table of an alphabet (R37). -/
def State.freqTable (s : State) : Alphabet → Table
  | .litLen => s.freqLL
  | .dist => s.freqD
  | .codeLen => s.freqCL

/-- The code-length table of an alphabet (R37). -/
def State.lenTable (s : State) : Alphabet → Table
  | .litLen => s.lenLL
  | .dist => s.lenD
  | .codeLen => s.lenCL

/-- A table that a command has just written. -/
def Table.of (entries : List Nat) : Table := { written := true, entries := entries }

/-- CCB.LENGTHS writes the code-length table of the alphabet it was given (R37). -/
def State.putLens (s : State) (a : Alphabet) (l : List Nat) : State :=
  match a with
  | .litLen => { s with lenLL := .of l }
  | .dist => { s with lenD := .of l }
  | .codeLen => { s with lenCL := .of l }

/-- CCB.CODES writes the code table of the alphabet it was given (R37). -/
def State.putCodes (s : State) (a : Alphabet) (c : List Nat) : State :=
  match a with
  | .litLen => { s with codeLL := .of c }
  | .dist => { s with codeD := .of c }
  | .codeLen => { s with codeCL := .of c }

/-- The table an operand stands for: none when it names a table no command has written (R380). -/
def resolveTable (tables : Alphabet → Table) : TableArg → Option (List Nat)
  | .lit l => some l
  | .reg a => if (tables a).written then some (tables a).entries else none

end Sys2Proof.Machine
end

