-- ==== Sys2Proof/Machine/Huffman.lean ====
section
/-! DEFINITION. The HuffmanTableBuilder (41_huffman_table.md): HTB.BUILD and the ROM tables built by it. -/

namespace Sys2Proof.Machine

/-- The largest entry (R161). -/
def maxLen (lengths : List Nat) : Nat := lengths.foldl max 0

/-- The smallest nonzero entry, 0 if there is none (R161). -/
def minLen (lengths : List Nat) : Nat :=
  lengths.foldl (fun m l => if l = 0 then m else if m = 0 then l else min m l) 0

/-- Write an entry in every slot `j` with `j mod stride = r` (R162). The first argument is the index of the first slot. -/
def fillSlots (entry : Entry) (stride r : Nat) : Nat → List Entry → List Entry
  | _, [] => []
  | j, e :: rest => (if j % stride = r then entry else e) :: fillSlots entry stride r (j + 1) rest

/-- A build in progress: the table and HTB.code (R162). -/
structure Build where
  table : List Entry
  code  : Nat
deriving DecidableEq, Repr

/-- The inner loop of R162 over the symbols from `i`: those of length `bl` take consecutive codes; `.error i` when the
code of symbol `i` does not fit (R166). -/
def placeSymbols (bl : Nat) : Nat → List Nat → Build → Except Nat Build
  | _, [], b => .ok b
  | i, l :: rest, b =>
    if l = bl then
      if b.code ≥ 2 ^ bl then .error i
      else placeSymbols bl (i + 1) rest
        { table := fillSlots (mkEntry bl i) (2 ^ bl) (revBits bl b.code) 0 b.table, code := b.code + 1 }
    else placeSymbols bl (i + 1) rest b

/-- The outer loop of R162, `n` lengths from `bl`: the code doubles after every length. -/
def placeLengths (lengths : List Nat) : Nat → Nat → Build → Except Nat Build
  | _, 0, b => .ok b
  | bl, n + 1, b =>
    match placeSymbols bl 0 lengths b with
    | .error i => .error i
    | .ok b => placeLengths lengths (bl + 1) n { b with code := b.code * 2 }

/-- HTB.BUILD (R160 to R166): the triple and the last HTB.code, or the symbol that did not fit. -/
def htbBuild (lengths : List Nat) : Except Nat (DecodeTable × Nat) :=
  let m := maxLen lengths
  match placeLengths lengths 1 m { table := List.replicate (2 ^ m) 0, code := 0 } with
  | .error i => .error i
  | .ok b => .ok ({ table := b.table, maxLen := m, minLen := minLen lengths }, b.code)

/-- A build of tables that are known to fit. -/
def romTable (lengths : List Nat) : DecodeTable :=
  match htbBuild lengths with
  | .ok (t, _) => t
  | .error _ => emptyTable

/-- The ROM decode table of the fixed literal/length code (R38, R168). -/
@[irreducible] def fixedLitLenTable : DecodeTable := romTable fixedLitLens

/-- The ROM decode table of the fixed distance code (R38, R45, R168). -/
@[irreducible] def fixedDistTable : DecodeTable := romTable fixedDistLens

/-- HTB.BUILD inside a command: the working registers, which exist during the build only (R24), keep their last values (log
18). DESIGN CHOICE (log 25): an all-zero or empty array, on which the loop never runs, leaves HTB.bitLength 0. -/
def buildTable (lengths : List Nat) (s : State) : Except Nat (DecodeTable × State) :=
  match htbBuild lengths with
  | .error i => .error i
  | .ok (t, code) => .ok (t, { s with htb := { code := code, bitLength := t.maxLen } })

/-- HTB.BUILD (R162): E_CODE with the symbol that does not fit; DESIGN CHOICE (log 12): a length array
outside R160 is E_API with faultInfo 0. -/
def execHtbBuild (a : TableArg) (s : State) : Outcome :=
  framed false s fun s =>
    match resolveTable s.lenTable a with
    | none => .next (raise .eApi 0 s)
    | some lengths =>
      if (TableArg.lit lengths).lengthsOk then
        match buildTable lengths s with
        | .error i => .next (raise .eCode i s)
        | .ok (t, s) => .next (answer (.table t) { s with built := s.built ++ [t] })
      else .next (raise .eApi 0 s)

end Sys2Proof.Machine
end

