-- ==== Sys2Proof/Machine/Expand.lean ====
section
/-! DEFINITION. What the two decoders share (45_decoder.md, 46_streaming_decoder.md): emitting, copying, the stored bytes,
the end of a block, the fixed tables, the assembly of a dynamic header's lengths. -/

namespace Sys2Proof.Machine

/-- The job of a running decode, if one runs. -/
def State.job (s : State) : Option Job :=
  match s.seq with
  | .decode j _ => some j
  | _ => none

/-- The next element of the running decode is of this kind. -/
def State.goto (ph : Phase) (s : State) : State :=
  match s.seq with
  | .decode j _ => { s with seq := .decode j ph }
  | _ => { s with seq := .decode .adaptive ph }

/-- `SDEC.state <- X`, in a streaming call only (R305). -/
def State.streamState (x : SdecState) (s : State) : State :=
  match s.seq with
  | .decode .stream _ => { s with sdec := { s.sdec with state := x } }
  | _ => s

/-- Emit (R277): the ceiling does not apply under the Fixed-window strategy. -/
def emit (b : Byte) (s : State) : Act State :=
  if s.job ≠ some .block ∧ s.params.maxOutputBytes = some s.dec.op then .error (raise .eOverflow s.dec.op s)
  else .ok { s with dec := { s.dec with out := s.dec.out ++ [b] } }

/-- Copy(length, distance), one byte at a time (R276). -/
def copyMatch (distance : Nat) : Nat → State → Act State
  | 0, s => .ok s
  | n + 1, s =>
    match emit (s.dec.out.getD (s.dec.op - distance) 0) s with
    | .error s => .error s
    | .ok s => copyMatch distance n s

/-- How many bytes of O are in DEC.blocks (R283). -/
def Dec.flushed (d : Dec) : Nat := (d.blocks.map List.length).sum

/-- The Fixed-window strategy before each token and each stored byte (R283): when fewer than 258 bytes are free, all but
the trailing window goes to the completed-blocks list. -/
def flushBlocks (s : State) : State :=
  match s.seq with
  | .decode .block _ =>
    let w := s.dec.op - s.dec.flushed
    if w > Config.window + s.cfg.bufferSize then
      { s with dec := { s.dec with blocks := s.dec.blocks ++ [(s.dec.out.drop s.dec.flushed).take (w - Config.window)] } }
    else s
  | _ => s

/-- What DEC.* returns: under the Fixed-window strategy "all completed blocks + tail" (R283), else O (R66). -/
def decodeResult (s : State) : List Byte :=
  match s.seq with
  | .decode .block _ => s.dec.blocks.flatten ++ s.dec.out.drop s.dec.flushed
  | _ => s.dec.out

/-- After a block: the stream ends iff BFINAL is 1, else the next header is read (R260, R305). -/
def endBlock (s : State) : State :=
  let s := s.streamState .decodeBlockEnd
  if s.dec.bfinal then
    match s.seq with
    | .decode .stream _ => deliver { s with status := { s.status with done := true } }
    | _ => answerDone (decodeResult s) s
  else (s.streamState .initialized).goto .blkHdr

/-- The stored bytes, `n` of them left (R264, R305): each is emitted and counted off; a streaming call stops between two
bytes when none is left. -/
def copyStored : Nat → State → Act State
  | 0, s => .ok s
  | n + 1, s =>
    if 8 * s.br.inputLength - s.br.pos < 8 ∧ s.job = some .stream then .error (needInput s)
    else
      match readBits 8 (flushBlocks s) with
      | .error s => .error s
      | .ok (v, s) =>
        match emit (BitVec.ofNat 8 v) s with
        | .error s => .error s
        | .ok s => copyStored n { s with dec := { s.dec with blockLen := n } }

/-- The body of a stored block: in DEC.* all of it must be there (R264). -/
def storedBody (s : State) : Act State :=
  if s.job ≠ some .stream ∧ 8 * s.dec.blockLen > 8 * s.br.inputLength - s.br.pos then
    .error (raise .eTruncated s.br.pos s)
  else (copyStored s.dec.blockLen s).map endBlock

/-- UseFixedTables (R265). -/
def useFixedTables (s : State) : State := { s with dec := { s.dec with ll := fixedLitLenTable, d := fixedDistTable } }

/-- BR.SAVE at the start of a try (R304); DEC.* has no tries. -/
def tryStart (s : State) : State :=
  match s.seq with
  | .decode .stream _ => { s with br := s.br.keep }
  | _ => s

/-- HTB.BUILD on an array from a dynamic header: E_CODE is reported as E_HEADER (R166, R270). -/
def buildHeaderTable (lengths : List Nat) (s : State) : Act (DecodeTable × State) :=
  match buildTable lengths s with
  | .error _ => .error (raise .eHeader 0 s)
  | .ok x => .ok x

/-- The last step of ReadDynamicHeader: the combined array is split and the two tables are built (R270). -/
def finishHeader (s : State) : Act State :=
  match buildHeaderTable (s.dec.hdr.lens.take s.dec.hdr.hlit) s with
  | .error s => .error s
  | .ok (ll, s) =>
    match buildHeaderTable ((s.dec.hdr.lens.drop s.dec.hdr.hlit).take s.dec.hdr.hdist) s with
    | .error s => .error s
    | .ok (d, s) =>
      .ok ((({ s with dec := { s.dec with ll := ll, d := d } } : State).streamState .decodeBlockStart).goto .litLen)

/-- Has the combined array its HLIT + HDIST lengths (R270)? If so the header is finished, else another CLSYM follows. -/
def headerTurn (s : State) : Act State :=
  if s.dec.hdr.lens.length < s.dec.hdr.hlit + s.dec.hdr.hdist then .ok (s.goto .clSym) else finishHeader s

/-- Append one code length (R270, symbols 0..15). -/
def appendLength (v : Nat) (s : State) : Act State :=
  headerTurn { s with dec := { s.dec with hdr := { s.dec.hdr with lens := s.dec.hdr.lens ++ [v] } } }

/-- Append `rep` times the length `v`; past HLIT + HDIST it is E_HEADER (R270, symbols 16..18). -/
def appendRepeat (rep v : Nat) (s : State) : Act State :=
  if s.dec.hdr.lens.length + rep > s.dec.hdr.hlit + s.dec.hdr.hdist then .error (raise .eHeader rep s)
  else headerTurn { s with dec := { s.dec with hdr := { s.dec.hdr with lens := s.dec.hdr.lens ++ List.replicate rep v } } }

/-- A match length is known; its distance follows (R273). -/
def takeLength (length : Nat) (s : State) : State :=
  ({ s with dec := { s.dec with matchLen := length } } : State).goto .dist

/-- A distance is known: beyond the output produced it is E_DISTANCE (R275), else the match is copied (R276) and the next
token follows. -/
def takeDistance (distance : Nat) (s : State) : Act State :=
  if distance > s.dec.op then .error (raise .eDistance distance s)
  else (copyMatch distance s.dec.matchLen s).map (State.goto .litLen)

end Sys2Proof.Machine
end

