-- ==== Sys2Proof/Machine/Element.lean ====
section
/-! DEFINITION. The elements of the bit stream (30_encoding.md R91 to R97, 45_decoder.md R261 to R276): one meaning per
element. The element's own bits have been consumed when its meaning runs. -/

namespace Sys2Proof.Machine

/-- ReadBlockHeader (R261): BFINAL and BTYPE are known. -/
def blockHeader (bfinal : Bool) (btype : BType) (s : State) : State :=
  ({ s with dec := { s.dec with bfinal := bfinal, btype := btype } } : State).streamState .blockHeaderEnd

/-- BLOCK.STORED: a stored header follows (R263). -/
def execBlockStored (bfinal : Bool) (s : State) : Outcome :=
  .next (((blockHeader bfinal .stored s).streamState .blockBodyStart).goto .stored)

/-- BLOCK.FIXED: the fixed tables, then the tokens (R265). -/
def execBlockFixed (bfinal : Bool) (s : State) : Outcome :=
  .next (((useFixedTables (blockHeader bfinal .fixed s)).streamState .decodeBlockStart).goto .litLen)

/-- BLOCK.DYNAMIC: a dynamic header follows (R270). -/
def execBlockDynamic (bfinal : Bool) (s : State) : Outcome :=
  .next (((blockHeader bfinal .dynamic s).streamState .blockBodyStart).goto .dynHdr)

/-- BLOCK.RESERVED: E_BTYPE with the position after the header (R261, R132). -/
def execBlockReserved (bfinal : Bool) (s : State) : Outcome :=
  .next (raise .eBtype s.br.pos (blockHeader bfinal .reserved s))

/-- STOREDHDR: LEN is verified, then LEN raw bytes are copied (R263, R264). -/
def execStoredHdr (len nlen : BitVec 16) (s : State) : Outcome :=
  if len ^^^ nlen ≠ 0xFFFF then .next (raise .eLenVerify len.toNat s)
  else
    conclude (storedBody (({ s with dec := { s.dec with blockLen := len.toNat } } : State).streamState .decodeBlockStart))

/-- `lenCL[CL_ORDER[i]] <- BR.READ 3` for the symbols of `order` (R270). -/
def readClLengths : List Nat → List Nat → State → Act (List Nat × State)
  | [], lens, s => .ok (lens, s)
  | sym :: order, lens, s =>
    match readBits 3 s with
    | .error s => .error s
    | .ok (v, s) => readClLengths order (lens.set sym v) s

/-- DYNHDR: the counts are checked, the code-length lengths read and their table built (R270, R272). -/
def dynamicHeader (hlit hdist hclen : Nat) (s : State) : Act State :=
  if hlit > 286 then .error (raise .eHeader hlit s)
  else if hdist > 30 then .error (raise .eHeader hdist s)
  else
    match readClLengths (clOrder.take hclen) (List.replicate Config.nCl 0) s with
    | .error s => .error s
    | .ok (lens, s) =>
      match buildHeaderTable lens { s with lenCL := .of lens } with
      | .error s => .error s
      | .ok (cl, s) =>
        .ok (({ s with dec := { s.dec with cl := cl, hdr := { hlit := hlit, hdist := hdist, lens := [] } } } : State).goto
          .clSym)

/-- DYNHDR (R95, R100, R270). -/
def execDynHdr (hlit hdist : BitVec 5) (hclen : BitVec 4) (s : State) : Outcome :=
  conclude (dynamicHeader (hlit.toNat + 257) (hdist.toNat + 1) (hclen.toNat + 4) s)

/-- LIT: the byte is emitted (R273). -/
def execLit (b : Byte) (s : State) : Outcome := conclude ((emit b s).map (State.goto .litLen))

/-- EOB: the block ends (R273). -/
def execEob (s : State) : Outcome := .next (endBlock s)

/-! ## Length symbols (R101, R105) -/

/-- LEN.257: length 3. -/
def execLen257 (s : State) : Outcome := .next (takeLength 3 s)

/-- LEN.258: length 4. -/
def execLen258 (s : State) : Outcome := .next (takeLength 4 s)

/-- LEN.259: length 5. -/
def execLen259 (s : State) : Outcome := .next (takeLength 5 s)

/-- LEN.260: length 6. -/
def execLen260 (s : State) : Outcome := .next (takeLength 6 s)

/-- LEN.261: length 7. -/
def execLen261 (s : State) : Outcome := .next (takeLength 7 s)

/-- LEN.262: length 8. -/
def execLen262 (s : State) : Outcome := .next (takeLength 8 s)

/-- LEN.263: length 9. -/
def execLen263 (s : State) : Outcome := .next (takeLength 9 s)

/-- LEN.264: length 10. -/
def execLen264 (s : State) : Outcome := .next (takeLength 10 s)

/-- LEN.265: length 11 + extra. -/
def execLen265 (extra : BitVec 1) (s : State) : Outcome := .next (takeLength (11 + extra.toNat) s)

/-- LEN.266: length 13 + extra. -/
def execLen266 (extra : BitVec 1) (s : State) : Outcome := .next (takeLength (13 + extra.toNat) s)

/-- LEN.267: length 15 + extra. -/
def execLen267 (extra : BitVec 1) (s : State) : Outcome := .next (takeLength (15 + extra.toNat) s)

/-- LEN.268: length 17 + extra. -/
def execLen268 (extra : BitVec 1) (s : State) : Outcome := .next (takeLength (17 + extra.toNat) s)

/-- LEN.269: length 19 + extra. -/
def execLen269 (extra : BitVec 2) (s : State) : Outcome := .next (takeLength (19 + extra.toNat) s)

/-- LEN.270: length 23 + extra. -/
def execLen270 (extra : BitVec 2) (s : State) : Outcome := .next (takeLength (23 + extra.toNat) s)

/-- LEN.271: length 27 + extra. -/
def execLen271 (extra : BitVec 2) (s : State) : Outcome := .next (takeLength (27 + extra.toNat) s)

/-- LEN.272: length 31 + extra. -/
def execLen272 (extra : BitVec 2) (s : State) : Outcome := .next (takeLength (31 + extra.toNat) s)

/-- LEN.273: length 35 + extra. -/
def execLen273 (extra : BitVec 3) (s : State) : Outcome := .next (takeLength (35 + extra.toNat) s)

/-- LEN.274: length 43 + extra. -/
def execLen274 (extra : BitVec 3) (s : State) : Outcome := .next (takeLength (43 + extra.toNat) s)

/-- LEN.275: length 51 + extra. -/
def execLen275 (extra : BitVec 3) (s : State) : Outcome := .next (takeLength (51 + extra.toNat) s)

/-- LEN.276: length 59 + extra. -/
def execLen276 (extra : BitVec 3) (s : State) : Outcome := .next (takeLength (59 + extra.toNat) s)

/-- LEN.277: length 67 + extra. -/
def execLen277 (extra : BitVec 4) (s : State) : Outcome := .next (takeLength (67 + extra.toNat) s)

/-- LEN.278: length 83 + extra. -/
def execLen278 (extra : BitVec 4) (s : State) : Outcome := .next (takeLength (83 + extra.toNat) s)

/-- LEN.279: length 99 + extra. -/
def execLen279 (extra : BitVec 4) (s : State) : Outcome := .next (takeLength (99 + extra.toNat) s)

/-- LEN.280: length 115 + extra. -/
def execLen280 (extra : BitVec 4) (s : State) : Outcome := .next (takeLength (115 + extra.toNat) s)

/-- LEN.281: length 131 + extra. -/
def execLen281 (extra : BitVec 5) (s : State) : Outcome := .next (takeLength (131 + extra.toNat) s)

/-- LEN.282: length 163 + extra. -/
def execLen282 (extra : BitVec 5) (s : State) : Outcome := .next (takeLength (163 + extra.toNat) s)

/-- LEN.283: length 195 + extra. -/
def execLen283 (extra : BitVec 5) (s : State) : Outcome := .next (takeLength (195 + extra.toNat) s)

/-- LEN.284: length 227 + extra. -/
def execLen284 (extra : BitVec 5) (s : State) : Outcome := .next (takeLength (227 + extra.toNat) s)

/-- LEN.285: length 258. -/
def execLen285 (s : State) : Outcome := .next (takeLength 258 s)

/-- LL.INVALID.286: E_SYMBOL (R274). -/
def execLlInvalid286 (s : State) : Outcome := .next (raise .eSymbol 286 s)

/-- LL.INVALID.287: E_SYMBOL (R274). -/
def execLlInvalid287 (s : State) : Outcome := .next (raise .eSymbol 287 s)

/-! ## Distance symbols (R102, R106) -/

/-- DIST.0: distance 1. -/
def execDist0 (s : State) : Outcome := conclude (takeDistance 1 s)

/-- DIST.1: distance 2. -/
def execDist1 (s : State) : Outcome := conclude (takeDistance 2 s)

/-- DIST.2: distance 3. -/
def execDist2 (s : State) : Outcome := conclude (takeDistance 3 s)

/-- DIST.3: distance 4. -/
def execDist3 (s : State) : Outcome := conclude (takeDistance 4 s)

/-- DIST.4: distance 5 + extra. -/
def execDist4 (extra : BitVec 1) (s : State) : Outcome := conclude (takeDistance (5 + extra.toNat) s)

/-- DIST.5: distance 7 + extra. -/
def execDist5 (extra : BitVec 1) (s : State) : Outcome := conclude (takeDistance (7 + extra.toNat) s)

/-- DIST.6: distance 9 + extra. -/
def execDist6 (extra : BitVec 2) (s : State) : Outcome := conclude (takeDistance (9 + extra.toNat) s)

/-- DIST.7: distance 13 + extra. -/
def execDist7 (extra : BitVec 2) (s : State) : Outcome := conclude (takeDistance (13 + extra.toNat) s)

/-- DIST.8: distance 17 + extra. -/
def execDist8 (extra : BitVec 3) (s : State) : Outcome := conclude (takeDistance (17 + extra.toNat) s)

/-- DIST.9: distance 25 + extra. -/
def execDist9 (extra : BitVec 3) (s : State) : Outcome := conclude (takeDistance (25 + extra.toNat) s)

/-- DIST.10: distance 33 + extra. -/
def execDist10 (extra : BitVec 4) (s : State) : Outcome := conclude (takeDistance (33 + extra.toNat) s)

/-- DIST.11: distance 49 + extra. -/
def execDist11 (extra : BitVec 4) (s : State) : Outcome := conclude (takeDistance (49 + extra.toNat) s)

/-- DIST.12: distance 65 + extra. -/
def execDist12 (extra : BitVec 5) (s : State) : Outcome := conclude (takeDistance (65 + extra.toNat) s)

/-- DIST.13: distance 97 + extra. -/
def execDist13 (extra : BitVec 5) (s : State) : Outcome := conclude (takeDistance (97 + extra.toNat) s)

/-- DIST.14: distance 129 + extra. -/
def execDist14 (extra : BitVec 6) (s : State) : Outcome := conclude (takeDistance (129 + extra.toNat) s)

/-- DIST.15: distance 193 + extra. -/
def execDist15 (extra : BitVec 6) (s : State) : Outcome := conclude (takeDistance (193 + extra.toNat) s)

/-- DIST.16: distance 257 + extra. -/
def execDist16 (extra : BitVec 7) (s : State) : Outcome := conclude (takeDistance (257 + extra.toNat) s)

/-- DIST.17: distance 385 + extra. -/
def execDist17 (extra : BitVec 7) (s : State) : Outcome := conclude (takeDistance (385 + extra.toNat) s)

/-- DIST.18: distance 513 + extra. -/
def execDist18 (extra : BitVec 8) (s : State) : Outcome := conclude (takeDistance (513 + extra.toNat) s)

/-- DIST.19: distance 769 + extra. -/
def execDist19 (extra : BitVec 8) (s : State) : Outcome := conclude (takeDistance (769 + extra.toNat) s)

/-- DIST.20: distance 1025 + extra. -/
def execDist20 (extra : BitVec 9) (s : State) : Outcome := conclude (takeDistance (1025 + extra.toNat) s)

/-- DIST.21: distance 1537 + extra. -/
def execDist21 (extra : BitVec 9) (s : State) : Outcome := conclude (takeDistance (1537 + extra.toNat) s)

/-- DIST.22: distance 2049 + extra. -/
def execDist22 (extra : BitVec 10) (s : State) : Outcome := conclude (takeDistance (2049 + extra.toNat) s)

/-- DIST.23: distance 3073 + extra. -/
def execDist23 (extra : BitVec 10) (s : State) : Outcome := conclude (takeDistance (3073 + extra.toNat) s)

/-- DIST.24: distance 4097 + extra. -/
def execDist24 (extra : BitVec 11) (s : State) : Outcome := conclude (takeDistance (4097 + extra.toNat) s)

/-- DIST.25: distance 6145 + extra. -/
def execDist25 (extra : BitVec 11) (s : State) : Outcome := conclude (takeDistance (6145 + extra.toNat) s)

/-- DIST.26: distance 8193 + extra. -/
def execDist26 (extra : BitVec 12) (s : State) : Outcome := conclude (takeDistance (8193 + extra.toNat) s)

/-- DIST.27: distance 12289 + extra. -/
def execDist27 (extra : BitVec 12) (s : State) : Outcome := conclude (takeDistance (12289 + extra.toNat) s)

/-- DIST.28: distance 16385 + extra. -/
def execDist28 (extra : BitVec 13) (s : State) : Outcome := conclude (takeDistance (16385 + extra.toNat) s)

/-- DIST.29: distance 24577 + extra. -/
def execDist29 (extra : BitVec 13) (s : State) : Outcome := conclude (takeDistance (24577 + extra.toNat) s)

/-- DIST.INVALID.30: the unfilled slot rev_5(30) = 15 of the fixed table, E_CODE (R133, R45). -/
def execDistInvalid30 (s : State) : Outcome := .next (raise .eCode 15 s)

/-- DIST.INVALID.31: the unfilled slot rev_5(31) = 31 of the fixed table, E_CODE (R133, R45). -/
def execDistInvalid31 (s : State) : Outcome := .next (raise .eCode 31 s)

/-! ## Code-length symbols (R96, R103, R270) -/

/-- CL.0: one code length 0. -/
def execCl0 (s : State) : Outcome := conclude (appendLength 0 s)

/-- CL.1: one code length 1. -/
def execCl1 (s : State) : Outcome := conclude (appendLength 1 s)

/-- CL.2: one code length 2. -/
def execCl2 (s : State) : Outcome := conclude (appendLength 2 s)

/-- CL.3: one code length 3. -/
def execCl3 (s : State) : Outcome := conclude (appendLength 3 s)

/-- CL.4: one code length 4. -/
def execCl4 (s : State) : Outcome := conclude (appendLength 4 s)

/-- CL.5: one code length 5. -/
def execCl5 (s : State) : Outcome := conclude (appendLength 5 s)

/-- CL.6: one code length 6. -/
def execCl6 (s : State) : Outcome := conclude (appendLength 6 s)

/-- CL.7: one code length 7. -/
def execCl7 (s : State) : Outcome := conclude (appendLength 7 s)

/-- CL.8: one code length 8. -/
def execCl8 (s : State) : Outcome := conclude (appendLength 8 s)

/-- CL.9: one code length 9. -/
def execCl9 (s : State) : Outcome := conclude (appendLength 9 s)

/-- CL.10: one code length 10. -/
def execCl10 (s : State) : Outcome := conclude (appendLength 10 s)

/-- CL.11: one code length 11. -/
def execCl11 (s : State) : Outcome := conclude (appendLength 11 s)

/-- CL.12: one code length 12. -/
def execCl12 (s : State) : Outcome := conclude (appendLength 12 s)

/-- CL.13: one code length 13. -/
def execCl13 (s : State) : Outcome := conclude (appendLength 13 s)

/-- CL.14: one code length 14. -/
def execCl14 (s : State) : Outcome := conclude (appendLength 14 s)

/-- CL.15: one code length 15. -/
def execCl15 (s : State) : Outcome := conclude (appendLength 15 s)

/-- CL.16: the previous code length 3 + extra times; E_HEADER(16) with nothing before it (R270, R271). -/
def execCl16 (extra : BitVec 2) (s : State) : Outcome :=
  match s.dec.hdr.lens.getLast? with
  | none => .next (raise .eHeader 16 s)
  | some prev => conclude (appendRepeat (3 + extra.toNat) prev s)

/-- CL.17: 3 + extra zeros. -/
def execCl17 (extra : BitVec 3) (s : State) : Outcome := conclude (appendRepeat (3 + extra.toNat) 0 s)

/-- CL.18: 11 + extra zeros. -/
def execCl18 (extra : BitVec 7) (s : State) : Outcome := conclude (appendRepeat (11 + extra.toNat) 0 s)

end Sys2Proof.Machine
end

