-- ==== Sys2Proof/Machine/Token.lean ====
section
/-! DEFINITION. The token packer (R235, R238): one meaning per token, and the decode-table entry (R126, R149). -/

namespace Sys2Proof.Machine

/-- Write the code of a literal/length symbol: E_API for a symbol above 285 or without a code (R235). -/
def packSymbol (t : Nat) (s : State) : Act State :=
  if t > 285 then .error (raise .eApi t s)
  else if s.lenLL.entries.getD t 0 = 0 then .error (raise .eApi t s)
  else bwWrite (s.codeLL.entries.getD t 0) (s.lenLL.entries.getD t 0) true s

/-- ENC.tokIndex moves past a token (R235). -/
def advance (slots : Nat) (s : State) : State := { s with enc := { s.enc with tokIndex := s.enc.tokIndex + slots } }

/-- T-LIT (R120, R235). -/
def execTLit (b : Byte) (s : State) : Outcome := conclude ((packSymbol b.toNat s).map (advance 1))

/-- The end of an ENC command: BW.FINISH, its bytes the result, STATUS.done (R231). -/
def finishEncode (s : State) : State :=
  match bwFinish s with
  | .error s => s
  | .ok (bs, s) => answerDone bs s

/-- T-EOB: its code is written and the stream ends (R121, R235, R231). -/
def execTEob (s : State) : Outcome := conclude ((packSymbol 256 s).map finishEncode)

/-- The fields of a match after its length symbol `t` (R235), each checked against its table. -/
def packMatch (t eb ev d deb dev : Nat) (s : State) : Act State :=
  if d > 29 ∨ s.lenD.entries.getD d 0 = 0 then .error (raise .eApi d s)
  else if eb ≠ lenExtra.getD (t - 257) 0 ∨ ev ≥ 2 ^ eb ∨ deb ≠ distExtra.getD d 0 ∨ dev ≥ 2 ^ deb then
    .error (raise .eApi t s)
  else
    match bwWrite ev eb true s with
    | .error s => .error s
    | .ok s =>
      match bwWrite (s.codeD.entries.getD d 0) (s.lenD.entries.getD d 0) true s with
      | .error s => .error s
      | .ok s => (bwWrite dev deb true s).map (advance 6)

/-- T-MATCH, slot 0 = 256 + lc (R122, R123, R235). -/
def execTMatch (lc : BitVec 8) (lextra lvalue dcode dextra dvalue : Slot) (s : State) : Outcome :=
  let t := 256 + lc.toNat
  match packSymbol t s with
  | .error s => .next s
  | .ok s => conclude (packMatch t lextra.toNat lvalue.toNat dcode.toNat dextra.toNat dvalue.toNat s)

/-- DTE: the entry BR.DECODE has found is executed; its symbol is the command's result (R126, R149). -/
def execDte (codeLength symbol : BitVec 16) (s : State) : Outcome :=
  let (index, maxLen) :=
    match s.seq with
    | .lookup index maxLen _ => (index, maxLen)
    | _ => (0, 0)
  match consumeEntry index maxLen codeLength.toNat symbol.toNat s with
  | .error s => .next s
  | .ok (sym, s) => .next (answer (.symbol sym) s)

end Sys2Proof.Machine
end

