-- ==== Sys2Proof/Machine/Turn.lean ====
section
/-! DEFINITION. Fetching and running one element: which bits stand where the running command goes on (R30), and a command
that runs its turns to completion (R13, R390). -/

namespace Sys2Proof.Machine

/-- The meaning of an element (a row that is no host command); a host command is no element and changes nothing here. -/
def execElement (i : Instr) (s : State) : Outcome :=
  match i with
  | .reset => .next s
  | .bwInit => .next s
  | .bwWrite _ _ _ => .next s
  | .bwFinish => .next s
  | .brInit => .next s
  | .brRead _ => .next s
  | .brDecode _ => .next s
  | .brAlign => .next s
  | .brSave => .next s
  | .brRestore => .next s
  | .htbBuild _ => .next s
  | .lzmRun => .next s
  | .ccbLengths _ _ => .next s
  | .ccbCodes _ => .next s
  | .ccbRle _ => .next s
  | .encStored => .next s
  | .encFixed => .next s
  | .encDynamic => .next s
  | .decBlock => .next s
  | .decAdaptive => .next s
  | .sdecInit => .next s
  | .sdecCall _ _ => .next s
  | .rdConsumed => .next s
  | .blockStored f => execBlockStored f s
  | .blockFixed f => execBlockFixed f s
  | .blockDynamic f => execBlockDynamic f s
  | .blockReserved f => execBlockReserved f s
  | .lit b => execLit b s
  | .eob => execEob s
  | .len257 => execLen257 s
  | .len258 => execLen258 s
  | .len259 => execLen259 s
  | .len260 => execLen260 s
  | .len261 => execLen261 s
  | .len262 => execLen262 s
  | .len263 => execLen263 s
  | .len264 => execLen264 s
  | .len265 x => execLen265 x s
  | .len266 x => execLen266 x s
  | .len267 x => execLen267 x s
  | .len268 x => execLen268 x s
  | .len269 x => execLen269 x s
  | .len270 x => execLen270 x s
  | .len271 x => execLen271 x s
  | .len272 x => execLen272 x s
  | .len273 x => execLen273 x s
  | .len274 x => execLen274 x s
  | .len275 x => execLen275 x s
  | .len276 x => execLen276 x s
  | .len277 x => execLen277 x s
  | .len278 x => execLen278 x s
  | .len279 x => execLen279 x s
  | .len280 x => execLen280 x s
  | .len281 x => execLen281 x s
  | .len282 x => execLen282 x s
  | .len283 x => execLen283 x s
  | .len284 x => execLen284 x s
  | .len285 => execLen285 s
  | .llInvalid286 => execLlInvalid286 s
  | .llInvalid287 => execLlInvalid287 s
  | .dist0 => execDist0 s
  | .dist1 => execDist1 s
  | .dist2 => execDist2 s
  | .dist3 => execDist3 s
  | .dist4 x => execDist4 x s
  | .dist5 x => execDist5 x s
  | .dist6 x => execDist6 x s
  | .dist7 x => execDist7 x s
  | .dist8 x => execDist8 x s
  | .dist9 x => execDist9 x s
  | .dist10 x => execDist10 x s
  | .dist11 x => execDist11 x s
  | .dist12 x => execDist12 x s
  | .dist13 x => execDist13 x s
  | .dist14 x => execDist14 x s
  | .dist15 x => execDist15 x s
  | .dist16 x => execDist16 x s
  | .dist17 x => execDist17 x s
  | .dist18 x => execDist18 x s
  | .dist19 x => execDist19 x s
  | .dist20 x => execDist20 x s
  | .dist21 x => execDist21 x s
  | .dist22 x => execDist22 x s
  | .dist23 x => execDist23 x s
  | .dist24 x => execDist24 x s
  | .dist25 x => execDist25 x s
  | .dist26 x => execDist26 x s
  | .dist27 x => execDist27 x s
  | .dist28 x => execDist28 x s
  | .dist29 x => execDist29 x s
  | .distInvalid30 => execDistInvalid30 s
  | .distInvalid31 => execDistInvalid31 s
  | .cl0 => execCl0 s
  | .cl1 => execCl1 s
  | .cl2 => execCl2 s
  | .cl3 => execCl3 s
  | .cl4 => execCl4 s
  | .cl5 => execCl5 s
  | .cl6 => execCl6 s
  | .cl7 => execCl7 s
  | .cl8 => execCl8 s
  | .cl9 => execCl9 s
  | .cl10 => execCl10 s
  | .cl11 => execCl11 s
  | .cl12 => execCl12 s
  | .cl13 => execCl13 s
  | .cl14 => execCl14 s
  | .cl15 => execCl15 s
  | .cl16 x => execCl16 x s
  | .cl17 x => execCl17 x s
  | .cl18 x => execCl18 x s
  | .dynHdr l d c => execDynHdr l d c s
  | .storedHdr len nlen => execStoredHdr len nlen s
  | .tLit b => execTLit b s
  | .tEob => execTEob s
  | .tMatch lc le lv dc de dv => execTMatch lc le lv dc de dv s
  | .dte cl sym => execDte cl sym s

/-- Fetch a symbol of the stream: its code, then its extra bits, as one word (R97, R111). -/
def fetchSymbol (format : Format) (width : Nat) (t : DecodeTable) (extra : Nat → Nat) (s : State) : Act (Raw × State) :=
  match readSymbol t s with
  | .error s => .error s
  | .ok (sym, s) =>
    match readBits (extra sym) s with
    | .error s => .error s
    | .ok (x, s) => .ok ({ format := format, word := sym + 2 ^ width * x }, s)

/-- Fetch a distance symbol. A pattern of the fixed code that belongs to no symbol is an element of its own (R45, R133). -/
def fetchDistance (s : State) : Act (Raw × State) :=
  let (index, e, looked) := lookupEntry s.dec.d s
  if s.dec.btype = .fixed ∧ entryLength e = 0 ∧ ¬ looked.br.acclen < s.dec.d.maxLen ∧ (index = 15 ∨ index = 31) then
    .ok ({ format := .dist, word := if index = 15 then 30 else 31 }, looked)
  else fetchSymbol .dist 5 s.dec.d distSymbolExtra s

/-- Fetch two fields, the first below the second (R91, R93). -/
def fetchFields (format : Format) (n m : Nat) (s : State) : Act (Raw × State) :=
  match readBits n s with
  | .error s => .error s
  | .ok (a, s) =>
    match readBits m s with
    | .error s => .error s
    | .ok (b, s) => .ok ({ format := format, word := a + 2 ^ n * b }, s)

/-- Fetch the three counts of a dynamic header (R95). -/
def fetchCounts (s : State) : Act (Raw × State) :=
  match fetchFields .dynHdr 5 5 s with
  | .error s => .error s
  | .ok (r, s) =>
    match readBits 4 s with
    | .error s => .error s
    | .ok (c, s) => .ok ({ r with word := r.word + 2 ^ 10 * c }, s)

/-- Fetch the token at ENC.tokIndex (R68, R122): six slots when slot 0 is a length symbol, else one. A stream that runs out is
E_API (log 19). DESIGN CHOICE (log 28): the faultInfo is slot 0 of a match cut short, and 0 where no slot is left. -/
def fetchToken (s : State) : Act (Raw × State) :=
  match s.tok.drop s.enc.tokIndex with
  | [] => .error (raise .eApi 0 s)
  | t :: rest =>
    if 256 < t.toNat ∧ t.toNat ≤ 285 then
      match rest with
      | a :: b :: c :: d :: e :: _ =>
        .ok ({ format := .token, word := slotsWord [t.toNat, a.toNat, b.toNat, c.toNat, d.toNat, e.toNat] }, s)
      | _ => .error (raise .eApi t.toNat s)
    else .ok ({ format := .token, word := t.toNat }, s)

/-- What stands where the running command goes on (R30), and the state after it has been read. -/
def fetchElement (s : State) : Act (Raw × State) :=
  match s.seq with
  | .idle => .error s
  | .lookup _ _ e => .ok ({ format := .dte, word := e.toNat }, s)
  | .pack => fetchToken s
  | .decode _ .blkHdr => fetchFields .blkHdr 1 2 (tryStart (s.streamState .blockHeaderStart))
  | .decode _ .stored =>
    let s := tryStart s
    fetchFields .stored 16 16 { s with br := s.br.align }
  | .decode _ .dynHdr => fetchCounts (tryStart s)
  | .decode _ .clSym => fetchSymbol .clSym 5 s.dec.cl (fun sym => clSymbolExtra sym s.dec.hdr.lens) s
  | .decode _ .litLen =>
    let s := tryStart (flushBlocks s)
    fetchSymbol .litLen 9 s.dec.ll litLenExtra s
  | .decode _ .dist => fetchDistance s

/-- An element that is no instruction: a token slot above 285 is E_API (R235), a literal/length symbol above 285 E_SYMBOL
(R273), anything else an unresolvable code (log 19). -/
def illegalElement (r : Raw) (s : State) : State :=
  match r.format with
  | .token => raise .eApi (r.word % 2 ^ 16) s
  | .litLen => raise .eSymbol (r.word % 2 ^ 9) s
  | _ => raise .eCode r.word s

/-- One turn: fetch the element, decode it, run it. -/
def turn (s : State) : Outcome :=
  match fetchElement s with
  | .error s => .next s
  | .ok (r, s) =>
    match decode r with
    | .ok i => execElement i s
    | .error _ => .next (illegalElement r s)

/-- Turns until the command is over. The first argument is fuel. -/
def runTurns : Nat → State → Outcome
  | 0, s => .next s
  | fuel + 1, s =>
    match s.seq with
    | .idle => .next s
    | _ =>
      match turn s with
      | .next s => runTurns fuel s
      | o => o

/-- More turns than a command can take: every element of a stream consumes a bit, every token a slot. -/
def turnBound (s : State) : Nat := 8 * s.br.inputLength + s.br.acclen + s.tok.length + 2

/-- A command "run[s] to completion before the next is accepted" (R3, R13); with grain `turn` its turns are steps of
their own (R390, log 1). -/
def settle (s : State) : Outcome :=
  match s.grain with
  | .command => runTurns (turnBound s) s
  | .turn => .next s

/-- The tables HTB.BUILD has made (R149, R380): those the command returned to the host since reset, and the ROM (R38). DESIGN
CHOICE (log 23): a triple is known by its value, and one that a decoder built for itself inside a dynamic header (DEC.cl,
DEC.ll, DEC.d, R270) does not count; R380 does not say whether it does. -/
def madeByBuilder (t : DecodeTable) (s : State) : Bool :=
  s.built.contains t || t == fixedLitLenTable || t == fixedDistTable

/-- The reader's bytes must still be in IN (R76, R383; U9: no move). -/
def withInput (s : State) (body : State → Outcome) : Outcome :=
  if s.inKept ∧ s.br.inputLength ≤ s.inMem.length then body s else .fault .inputWithdrawn

end Sys2Proof.Machine
end

