-- ==== Sys2Proof/Machine/BitIo.lean ====
section
/-! DEFINITION. The commands of the bit-level serializer and deserializer (40_bitio.md). -/

namespace Sys2Proof.Machine

/-- BW.INIT (R140). -/
def execBwInit (s : State) : Outcome :=
  framed false s fun s => .next (answer .none (bwInit s))

/-- BW.WRITE (R142). -/
def execBwWrite (value n : Nat) (reversed : Bool) (s : State) : Outcome :=
  framed false s fun s => conclude ((bwWrite value n reversed s).map (answer .none))

/-- BW.FINISH (R144). -/
def execBwFinish (s : State) : Outcome :=
  framed false s fun s =>
    match bwFinish s with
    | .error s => .next s
    | .ok (bs, s) => .next (answer (.bytes bs) s)

/-- BR.INIT (R145). -/
def execBrInit (s : State) : Outcome :=
  framed false s fun s => conclude ((brInit s).map (answer .none))

/-- BR.READ (R147): E_API when n > 16. -/
def execBrRead (n : Nat) (s : State) : Outcome :=
  framed false s fun s =>
    if n > 16 then .next (raise .eApi n s)
    else withInput s fun s =>
      match readBits n { s with seq := .idle } with
      | .error s => .next s
      | .ok (v, s) => .next (answer (.value v) s)

/-- BR.DECODE (R149): E_API for a table HTB.BUILD has not made (R380; which count: log 23); otherwise the slot is found and its entry, a DTE,
is executed as the command's one turn. -/
def execBrDecode (t : DecodeTable) (s : State) : Outcome :=
  framed false s fun s =>
    if madeByBuilder t s then withInput s fun s =>
      let (index, e, s) := lookupEntry t s
      settle { s with seq := .lookup index t.maxLen e }
    else .next (raise .eApi 0 s)

/-- BR.ALIGN (R150). -/
def execBrAlign (s : State) : Outcome :=
  framed false s fun s => .next (answer .none { s with br := s.br.align })

/-- BR.SAVE (R151). -/
def execBrSave (s : State) : Outcome :=
  framed false s fun s => .next (answer .none { s with br := s.br.keep })

/-- BR.RESTORE (R152): E_API when nothing is saved. -/
def execBrRestore (s : State) : Outcome :=
  framed false s fun s =>
    if s.br.saved then .next (answer .none { s with br := s.br.back }) else .next (raise .eApi 0 s)

end Sys2Proof.Machine
end

