-- ==== Sys2Proof/Machine/CodeBuilder.lean ====
section
/-! DEFINITION. The CanonicalCodeBuilder (43_code_builder.md): CCB.LENGTHS, CCB.CODES, CCB.RLE. -/

namespace Sys2Proof.Machine

/-! ## Code lengths (R201 to R206) -/

/-- An item of the package-merge: a weight and a multiset of symbols (R206). -/
structure Item where
  weight  : Nat
  symbols : List Nat
deriving DecidableEq, Repr

/-- Insert a leaf in ascending order of (weight, symbol), the symbols arriving in increasing order (R203). -/
def insertLeaf (x : Item) : List Item → List Item
  | [] => [x]
  | y :: rest => if x.weight < y.weight then x :: y :: rest else y :: insertLeaf x rest

/-- The symbols from `i` with a frequency above 0, as leaves. -/
def leavesFrom : Nat → List Nat → List Item
  | _, [] => []
  | i, f :: rest => if f > 0 then { weight := f, symbols := [i] } :: leavesFrom (i + 1) rest else leavesFrom (i + 1) rest

/-- The leaves, ascending by (frequency, symbol) (R203). -/
def sortedLeaves (freq : List Nat) : List Item := (leavesFrom 0 freq).foldl (fun l x => insertLeaf x l) []

/-- Pair the items two by two; an odd last one is dropped (R206). -/
def packages : List Item → List Item
  | a :: b :: rest => { weight := a.weight + b.weight, symbols := a.symbols ++ b.symbols } :: packages rest
  | _ => []

/-- Merge leaves and packages ascending by weight, a leaf before a package of equal weight (R206). The first argument is
fuel: the number of items. -/
def mergeItems : Nat → List Item → List Item → List Item
  | 0, leaves, packs => leaves ++ packs
  | _ + 1, [], packs => packs
  | _ + 1, leaves, [] => leaves
  | fuel + 1, x :: leaves, p :: packs =>
    if x.weight ≤ p.weight then x :: mergeItems fuel leaves (p :: packs) else p :: mergeItems fuel (x :: leaves) packs

/-- `n` more levels of the package-merge (R206). -/
def packageLevels (leaves : List Item) : Nat → List Item → List Item
  | 0, cur => cur
  | n + 1, cur =>
    let packs := packages cur
    packageLevels leaves n (mergeItems (leaves.length + packs.length) leaves packs)

/-- How often each symbol below `n` occurs in the chosen items (R206). -/
def occurrences (n : Nat) (chosen : List Item) : List Nat :=
  let all := (chosen.map Item.symbols).flatten
  (List.range n).map fun s => all.count s

/-- The reference CodeLengths (R206). -/
def referenceLengths (freq : List Nat) (limit : Nat) : List Nat :=
  let leaves := sortedLeaves freq
  let final := packageLevels leaves (limit - 1) leaves
  occurrences freq.length (final.take (2 * leaves.length - 2))

/-- `Σ freq[i] * len[i]` (R204 d). -/
def totalCost (freq lens : List Nat) : Nat := (List.zipWith (· * ·) freq lens).sum

/-- `Σ over len[i] > 0 of 2^(L - len[i])` (R204 c). -/
def kraftSum (limit : Nat) (lens : List Nat) : Nat := (lens.map fun l => if l = 0 then 0 else 2 ^ (limit - l)).sum

/-- The contract of R204 (a), (b), (c), and (d) as "costs no more than the reference function's lengths". -/
def meetsContract (freq : List Nat) (limit : Nat) (lens : List Nat) : Bool :=
  decide (lens.length = freq.length) &&
  (List.zipWith (fun f l => decide (f = 0 ↔ l = 0)) freq lens).all id &&
  lens.all (· ≤ limit) &&
  decide (kraftSum limit lens ≤ 2 ^ limit) &&
  decide (totalCost freq lens ≤ totalCost freq (referenceLengths freq limit))

/-- The parameter CodeLengths (R11, R204): the implementation's own answer where it has one that meets the contract, the
reference function otherwise (log 5). -/
def codeLengths (p : Config.Params) (freq : List Nat) (limit : Nat) : List Nat :=
  match p.codeLengths.find? (fun c => c.freq == freq && c.limit == limit) with
  | some c => if meetsContract freq limit c.lens then c.lens else referenceLengths freq limit
  | none => referenceLengths freq limit

/-- The steps of R202; `.error m` when `m` symbols are more than `2^L`. -/
def ccbLengths (p : Config.Params) (freq : List Nat) (limit : Nat) : Except Nat (List Nat) :=
  let m := (freq.filter (· > 0)).length
  if m ≤ 1 then .ok (freq.map fun f => if f > 0 then 1 else 0)
  else if m > 2 ^ limit then .error m
  else .ok (codeLengths p freq limit)

/-- CCB.LENGTHS (R201, R202): E_API for too many symbols, for a table not yet written (R380), and for a limit outside 1..15.
DESIGN CHOICE (log 12): no rule raises anything for such a limit; the model takes E_API with the limit itself as faultInfo,
R331's "offending operand". DESIGN CHOICE (log 27): a register operand takes any limit of 1..15 (R201), so a limit above 7 on
freqCL or freqD may write lengths above R37's 7 into lenCL or lenD. -/
def execCcbLengths (a : TableArg) (limit : Nat) (s : State) : Outcome :=
  framed false s fun s =>
    if 1 ≤ limit ∧ limit ≤ 15 then
      match resolveTable s.freqTable a with
      | none => .next (raise .eApi 0 s)
      | some freq =>
        match ccbLengths s.params freq limit with
        | .error m => .next (raise .eApi m s)
        | .ok lens =>
          match a with
          | .lit _ => .next (answer (.lengths lens) s)
          | .reg al => .next (answer (.lengths lens) (s.putLens al lens))
    else .next (raise .eApi limit s)

/-! ## Codes (R210) -/

/-- The inner loop of R210: symbols of length `bl` take consecutive codes, stored bit-reversed; `none` when a code does
not fit. -/
def codeLevel (bl : Nat) : List Nat → List Nat → Nat → Option (List Nat × Nat)
  | l :: lens, c :: codes, next =>
    if l = bl then
      if next ≥ 2 ^ bl then none
      else (codeLevel bl lens codes (next + 1)).map fun (cs, n) => (revBits bl next :: cs, n)
    else (codeLevel bl lens codes next).map fun (cs, n) => (c :: cs, n)
  | _, codes, next => some (codes, next)

/-- The outer loop of R210, `n` lengths from `bl`. -/
def codeLevels (lens : List Nat) : Nat → Nat → List Nat → Nat → Option (List Nat)
  | _, 0, codes, _ => some codes
  | bl, n + 1, codes, next =>
    match codeLevel bl lens codes next with
    | none => none
    | some (codes, next) => codeLevels lens (bl + 1) n codes (next * 2)

/-- CCB.CODES (R210); `none` for an over-subscribed table. -/
def ccbCodes (lens : List Nat) : Option (List Nat) :=
  codeLevels lens 1 (lens.foldl max 0) (List.replicate lens.length 0) 0

/-- CCB.CODES (R210), of a table of any number of entries: E_API for an over-subscribed one (D12) and for one not yet written
(R380). DESIGN CHOICE (log 12): a length outside 0..15 (R37) is E_API with faultInfo 0. -/
def execCcbCodes (a : TableArg) (s : State) : Outcome :=
  framed false s fun s =>
    match resolveTable s.lenTable a with
    | none => .next (raise .eApi 0 s)
    | some lens =>
      if lengthsOk lens then
        match ccbCodes lens with
        | none => .next (raise .eApi 0 s)
        | some codes =>
          match a with
          | .lit _ => .next (answer (.codes codes) s)
          | .reg al => .next (answer (.codes codes) (s.putCodes al codes))
      else .next (raise .eApi 0 s)

/-! ## Run-length encoding (R215 to R218) -/

/-- The next chunk of a run: capped, and three shorter when one or two would be left (R218). -/
def chunkOf (cap run : Nat) : Nat :=
  let rpt := min run cap
  if run - rpt = 1 ∨ run - rpt = 2 then rpt - 3 else rpt

/-- The chunks of a run of at least three; the first argument is fuel, the run itself. -/
def chunks (cap : Nat) : Nat → Nat → List Nat
  | 0, _ => []
  | _ + 1, 0 => []
  | fuel + 1, run => chunkOf cap run :: chunks cap fuel (run - chunkOf cap run)

/-- The entry of one chunk of zeros (R216). -/
def zeroEntry (rpt : Nat) : RleEntry :=
  if rpt ≤ 10 then { symbol := 17, bits := 3, value := rpt - 3 } else { symbol := 18, bits := 7, value := rpt - 11 }

/-- A length written as itself. -/
def plainEntry (v : Nat) : RleEntry := { symbol := v, bits := 0, value := 0 }

/-- The entries of a maximal run of `run` elements `v` (R215 to R217). -/
def runEntries (v run : Nat) : List RleEntry :=
  if v = 0 then
    if run < 3 then List.replicate run (plainEntry 0) else (chunks 138 run run).map zeroEntry
  else
    plainEntry v ::
      (if run - 1 < 3 then List.replicate (run - 1) (plainEntry v)
       else (chunks 6 (run - 1) (run - 1)).map fun rpt => { symbol := 16, bits := 2, value := rpt - 3 })

/-- The maximal runs of a sequence: (value, length), in order (R215). -/
def runsOf : List Nat → List (Nat × Nat)
  | [] => []
  | v :: rest =>
    match runsOf rest with
    | (w, n) :: more => if v = w then (w, n + 1) :: more else (v, 1) :: (w, n) :: more
    | [] => [(v, 1)]

/-- CCB.RLE: the entries (R215). -/
def rleOf (src : List Nat) : List RleEntry := ((runsOf src).map fun (v, n) => runEntries v n).flatten

/-- freqCL: the number of entries with each symbol 0..18 (R215). -/
def rleFreq (entries : List RleEntry) : List Nat :=
  (List.range Config.nCl).map fun s => (entries.map RleEntry.symbol).count s

/-- CCB.RLE inside a command: `rle` and `freqCL` are written (R37). -/
def ccbRle (src : List Nat) (s : State) : State :=
  { s with rle := rleOf src, freqCL := .of (rleFreq (rleOf src)) }

/-- CCB.RLE (R215). DESIGN CHOICE (log 12): lengths outside 0..15 are E_API with faultInfo 0; a number of lengths outside
R215's 258..316 is executed, and `rle` may then have more than R37's 316 entries. -/
def execCcbRle (src : List Nat) (s : State) : Outcome :=
  framed false s fun s =>
    if lengthsOk src then
      let s := ccbRle src s
      .next (answer (.rle s.rle s.freqCL.entries) s)
    else .next (raise .eApi 0 s)

end Sys2Proof.Machine
end

