-- ==== Sys2Proof/Machine/Decoder.lean ====
section
/-! DEFINITION. The single-shot decoder (45_decoder.md): DEC.BLOCK and DEC.ADAPTIVE. The bit stream is executed element by
element (Element.lean, Turn.lean). -/

namespace Sys2Proof.Machine

/-- DEC.RUN before its first block header (R260): BR.INIT, an empty output. -/
def startDecode (job : Job) (s : State) : Act State :=
  (brInit s).map fun s =>
    { s with dec := { s.dec with out := [], blocks := [] }, seq := .decode job .blkHdr }

/-- DEC.BLOCK (R260, R283). -/
def execDecBlock (s : State) : Outcome :=
  framed true s fun s =>
    match startDecode .block s with
    | .error s => .next s
    | .ok s => settle s

/-- DEC.ADAPTIVE (R260, R284). -/
def execDecAdaptive (s : State) : Outcome :=
  framed true s fun s =>
    match startDecode .adaptive s with
    | .error s => .next s
    | .ok s => settle s

end Sys2Proof.Machine
end

