-- ==== Sys2Proof/Machine/Matcher.lean ====
section
/-! DEFINITION. The Lz77Matcher (42_lz77_matcher.md): LZM.RUN. -/

namespace Sys2Proof.Machine

/-! ## CHAIN (R69) -/

/-- `lookup(key)`: the positions of a key, oldest first; empty if there are none. -/
def Chain.lookup (key : Nat) : Chain → List Nat
  | [] => []
  | (k, ps) :: rest => if k = key then ps else Chain.lookup key rest

/-- The map with this sequence at this key; an empty sequence is no entry (R26). -/
def Chain.put (key : Nat) (ps : List Nat) : Chain → Chain
  | [] => if ps.isEmpty then [] else [(key, ps)]
  | (k, qs) :: rest =>
    if key < k then (if ps.isEmpty then (k, qs) :: rest else (key, ps) :: (k, qs) :: rest)
    else if k = key then (if ps.isEmpty then rest else (key, ps) :: rest)
    else (k, qs) :: Chain.put key ps rest

/-- `append(key, pos)`. -/
def Chain.append (key pos : Nat) (c : Chain) : Chain := c.put key (c.lookup key ++ [pos])

/-- `evictFront(key, pos)`: elements go from the front while `pos - front > 32768` (R175). -/
def Chain.evictFront (key pos : Nat) (c : Chain) : Chain :=
  c.put key ((c.lookup key).dropWhile fun front => decide (pos - front > Config.window))

/-! ## Search (R176) -/

/-- A match candidate, "{length, backwardDistance}" (R25). -/
structure Candidate where
  len  : Nat
  dist : Nat
deriving DecidableEq, Repr

/-- How many leading bytes agree, at most `cap` (R176, R179). -/
def agreeing : Nat → List Byte → List Byte → Nat
  | cap + 1, a :: as, b :: bs => if a = b then agreeing cap as bs + 1 else 0
  | _, _, _ => 0

/-- The scan, most recent first: only a strictly greater length replaces the best; after a 258 it stops (R176, R177,
D40). `rest` is the input from `pos` on. -/
def scan (data rest : List Byte) (pos : Nat) : List Nat → Option Candidate → Option Candidate
  | [], best => best
  | c :: older, best =>
    let l := agreeing Config.maxMatch (data.drop c) rest
    let best :=
      match best with
      | none => some { len := l, dist := pos - c }
      | some b => if l > b.len then some { len := l, dist := pos - c } else some b
    if l = Config.maxMatch then best else scan data rest pos older best

/-- Search(pos, chain) (R176). -/
def search (data rest : List Byte) (pos : Nat) (chain : List Nat) : Option Candidate :=
  scan data rest pos chain.reverse none

/-! ## Output (R182 to R184) -/

/-- A run in progress: the matcher's registers, CHAIN, TOK and the two frequency tables. -/
structure Run where
  reg    : Matcher
  chain  : Chain
  tok    : List Slot
  freqLL : List Nat
  freqD  : List Nat
deriving DecidableEq, Repr

/-- One more emission of a symbol. -/
def count (symbol : Nat) (freq : List Nat) : List Nat := freq.modify symbol (· + 1)

/-- Slots from naturals. -/
def slots (l : List Nat) : List Slot := l.map (BitVec.ofNat 16)

/-- EmitLiteral (R182). -/
def Run.emitLiteral (b : Byte) (r : Run) : Run :=
  { r with tok := r.tok ++ slots [b.toNat], freqLL := count b.toNat r.freqLL }

/-- EmitEOB (R183). -/
def Run.emitEob (r : Run) : Run := { r with tok := r.tok ++ slots [256], freqLL := count 256 r.freqLL }

/-- EmitMatch (R184). -/
def Run.emitMatch (len dist : Nat) (r : Run) : Run :=
  let (lc, le, lv) := lengthToken len
  let (dc, de, dv) := distToken dist
  { r with tok := r.tok ++ slots [lc, le, lv, dc, de, dv], freqLL := count lc r.freqLL, freqD := count dc r.freqD }

/-! ## The run (R172) -/

/-- The key of a position: its three bytes, if there are three (R173). -/
def keyOf : List Byte → Option Nat
  | a :: b :: c :: _ => some (a.toNat * 2 ^ 16 + b.toNat * 2 ^ 8 + c.toNat)
  | _ => none

/-- Every position that has a key is entered at the end of its own iteration (R174). -/
def Run.enter (key : Option Nat) (r : Run) : Run :=
  match key with
  | some k => { r with chain := r.chain.append k r.reg.pos }
  | none => r

/-- The eviction and the search at a position that is not skipped (R175, R176). -/
def Run.find (data rest : List Byte) (r : Run) : Option Candidate × Run :=
  match keyOf rest with
  | none => (none, r)
  | some k =>
    let r := { r with chain := r.chain.evictFront k r.reg.pos }
    let candidates := r.chain.lookup k
    (if candidates.isEmpty then none else search data rest r.reg.pos candidates, r)

/-- What is emitted at a position (R172, R180, R184): `byte` is the byte there, `before` the byte one place earlier. -/
def Run.choose (before byte : Byte) (cur : Option Candidate) (r : Run) : Run :=
  if r.reg.prevValid then
    let commit (r : Run) : Run :=
      let r := r.emitMatch r.reg.prevLen r.reg.prevDist
      { r with reg := { r.reg with skip := r.reg.prevLen - 2, prevValid := false } }
    match cur with
    | some m =>
      if m.len > r.reg.prevLen then
        let r := (r.emitLiteral before).emitMatch m.len m.dist
        { r with reg := { r.reg with skip := m.len - 1, prevValid := false } }
      else commit r
    | none => commit r
  else
    match cur with
    | some m =>
      if m.len < r.reg.lazy then
        { r with reg := { r.reg with prevLen := m.len, prevDist := m.dist, prevValid := true } }
      else
        let r := r.emitMatch m.len m.dist
        { r with reg := { r.reg with skip := m.len - 1 } }
    | none => r.emitLiteral byte

/-- One iteration of the loop of R172 at position LZM.pos, whose byte heads `rest`. -/
def Run.position (data : List Byte) (before byte : Byte) (rest : List Byte) (r : Run) : Run :=
  let key := keyOf rest
  if r.reg.skip > 0 then
    Run.enter key { r with reg := { r.reg with skip := r.reg.skip - 1 } }
  else
    let (cur, r) := r.find data rest
    (r.choose before byte cur).enter key

/-- The loop of R172 over the bytes from LZM.pos on. -/
def Run.loop (data : List Byte) (before : Byte) : List Byte → Run → Run
  | [], r => r
  | byte :: rest, r =>
    let r := r.position data before byte (byte :: rest)
    Run.loop data byte rest { r with reg := { r.reg with pos := r.reg.pos + 1 } }

/-- The run's start (R172). -/
def Run.start (lazy : Nat) (m : Matcher) : Run :=
  { reg := { m with pos := 0, skip := 0, prevValid := false, lazy := lazy }
    chain := [], tok := []
    freqLL := List.replicate Config.nLitLen 0, freqD := List.replicate Config.nDist 0 }

/-- The whole run: every position, then the end marker (R172, R183). -/
def matchRun (data : List Byte) (lazy : Nat) (m : Matcher) : Run :=
  ((Run.start lazy m).loop data 0 data).emitEob

/-- LZM.RUN inside a command: over the whole of IN, with CFG.lazy (R170). -/
def lzmRun (s : State) : State :=
  let r := matchRun s.inMem.bytes s.cfg.lazy s.lzm
  { s with lzm := r.reg, chain := r.chain, tok := r.tok, freqLL := .of r.freqLL, freqD := .of r.freqD }

/-- LZM.RUN (R172). -/
def execLzmRun (s : State) : Outcome :=
  framed false s fun s =>
    let s := lzmRun s
    .next (answer (.tokens s.tok s.freqLL.entries s.freqD.entries) s)

end Sys2Proof.Machine
end

