-- ==== Sys2Proof/Machine/Encoder.lean ====
section
/-! DEFINITION. The block encoder (44_encoder.md): ENC.STORED, ENC.FIXED, ENC.DYNAMIC. The token stream is packed token by
token (Token.lean, Turn.lean). -/

namespace Sys2Proof.Machine

/-- BW.WRITE of a sequence of (value, width) fields, each LSB-first (R232, R240). -/
def writeFields : List (Nat × Nat) → State → Act State
  | [], s => .ok s
  | (v, n) :: rest, s =>
    match bwWrite v n true s with
    | .error s => .error s
    | .ok s => writeFields rest s

/-- One stored block: header, pad, LEN, NLEN, data (R232, R233). -/
def storedBlock (last : Bool) (chunk : List Byte) (s : State) : Act State :=
  match writeFields [(last.toNat, 1), (0, 2)] s with
  | .error s => .error s
  | .ok s =>
    writeFields
      ([(0, (8 - s.bw.bitIndex) % 8), (chunk.length, 16), (chunk.length ^^^ 0xFFFF, 16)] ++
        chunk.map fun b => (b.toNat, 8)) s

/-- The loop of R232 from ENC.chunkPos on, over the bytes not yet written. The first argument is fuel: the number of
blocks is at most n / 65535 + 1. -/
def storedBlocks : Nat → List Byte → State → Act State
  | 0, _, s => .ok s
  | fuel + 1, data, s =>
    let chunk := data.take Config.storedMax
    let last := decide (data.length ≤ Config.storedMax)
    match storedBlock last chunk s with
    | .error s => .error s
    | .ok s =>
      let s := { s with enc := { s.enc with chunkPos := s.enc.chunkPos + chunk.length } }
      if last then .ok s else storedBlocks fuel (data.drop Config.storedMax) s

/-- ENC.STORED (R231, R232). -/
def execEncStored (s : State) : Outcome :=
  framed true s fun s =>
    let s := bwInit s
    let data := s.inMem.bytes
    conclude ((storedBlocks (data.length / Config.storedMax + 1) data { s with enc := { s.enc with chunkPos := 0 } }).map
      finishEncode)

/-- The packer begins: TOK[ENC.tokIndex] is executed next (R235). -/
def startPacking (s : State) : State := { s with enc := { s.enc with tokIndex := 0 }, seq := .pack }

/-- The ROM codes of the fixed literal/length lengths, stored bit-reversed (R38, R112). -/
@[irreducible] def fixedLitLenCodes : List Nat := (ccbCodes fixedLitLens).getD []

/-- The ROM codes of the fixed distance lengths (R38, R113). -/
@[irreducible] def fixedDistCodes : List Nat := (ccbCodes fixedDistLens).getD []

/-- The ROM codes of R112 and R113 become the block's codes (R236). -/
def useFixedCodes (s : State) : State :=
  { s with
    lenLL := .of fixedLitLens, codeLL := .of fixedLitLenCodes
    lenD := .of fixedDistLens, codeD := .of fixedDistCodes }

/-- ENC.FIXED up to its first token (R236). -/
def startFixed (s : State) : Act State :=
  (writeFields [(1, 1), (1, 2)] (useFixedCodes (lzmRun (bwInit s)))).map startPacking

/-- ENC.FIXED (R231, R236). -/
def execEncFixed (s : State) : Outcome :=
  framed true s fun s =>
    match startFixed s with
    | .error s => .next s
    | .ok s => settle s

/-- CCB.LENGTHS and CCB.CODES on a frequency table, inside ENC.DYNAMIC (R240). -/
def buildCodes (a : Alphabet) (limit : Nat) (s : State) : Act State :=
  match ccbLengths s.params (s.freqTable a).entries limit with
  | .error m => .error (raise .eApi m s)
  | .ok lens =>
    match ccbCodes lens with
    | none => .error (raise .eApi 0 s)
    | some codes => .ok ((s.putLens a lens).putCodes a codes)

/-- Drop trailing zero lengths, never below `floor` of them (R240). The first argument is the count it starts from. -/
def trimmed (floor : Nat) (lengthAt : Nat → Nat) : Nat → Nat
  | 0 => 0
  | n + 1 => if n + 1 > floor ∧ lengthAt n = 0 then trimmed floor lengthAt n else n + 1

/-- The tables of a dynamic block and its three counts (R240). -/
def dynamicTables (s : State) : Act State :=
  match buildCodes .litLen Config.limitLitLen s with
  | .error s => .error s
  | .ok s =>
    match buildCodes .dist Config.limitDist s with
    | .error s => .error s
    | .ok s =>
      let hlit := trimmed 257 (fun i => s.lenLL.entries.getD i 0) Config.nLitLen
      let hdist := trimmed 1 (fun i => s.lenD.entries.getD i 0) Config.nDist
      match buildCodes .codeLen Config.limitCl (ccbRle (s.lenLL.entries.take hlit ++ s.lenD.entries.take hdist) s) with
      | .error s => .error s
      | .ok s =>
        let hclen := trimmed 4 (fun i => s.lenCL.entries.getD (clOrder.getD i 0) 0) Config.nCl
        .ok { s with enc := { s.enc with hlit := hlit, hdist := hdist, hclen := hclen } }

/-- The fields of a dynamic block's header, in write order (R240). -/
def headerFields (s : State) : List (Nat × Nat) :=
  [(1, 1), (2, 2), (s.enc.hlit - 257, 5), (s.enc.hdist - 1, 5), (s.enc.hclen - 4, 4)] ++
  (clOrder.take s.enc.hclen).map (fun sym => (s.lenCL.entries.getD sym 0, 3)) ++
  (s.rle.map fun e =>
    [(s.codeCL.entries.getD e.symbol 0, s.lenCL.entries.getD e.symbol 0), (e.value, e.bits)]).flatten

/-- ENC.DYNAMIC up to its first token (R240). -/
def startDynamic (s : State) : Act State :=
  match dynamicTables (lzmRun (bwInit s)) with
  | .error s => .error s
  | .ok s => (writeFields (headerFields s) s).map startPacking

/-- ENC.DYNAMIC (R231, R240). -/
def execEncDynamic (s : State) : Outcome :=
  framed true s fun s =>
    match startDynamic s with
    | .error s => .next s
    | .ok s => settle s

end Sys2Proof.Machine
end

