-- ==== Sys2Proof/Machine/Streaming.lean ====
section
/-! DEFINITION. The streaming decoder (46_streaming_decoder.md): SDEC.INIT and SDEC.CALL. A call runs the same elements as
DEC.RUN (Element.lean, Turn.lean), each sub-step a try. -/

namespace Sys2Proof.Machine

/-- SDEC.INIT (R300). -/
def execSdecInit (s : State) : Outcome :=
  framed false s fun s =>
    .next (answer .none
      { s with
        sdec := { state := .initialized, sp := 0, started := false }
        inMem := [], inKept := true
        br := { s.br with ip := 0, acc := 0, acclen := 0, inputLength := 0 }
        dec := { s.dec with out := [], bfinal := false, btype := .stored, blockLen := 0 }
        status := { s.status with done := false, needInput := false } })

/-- The chunk is appended to the stream's input (R301, R302), which is bytes 0 .. BR.inputLength-1 of IN (R22, R63). DESIGN
CHOICE (log 24): bytes beyond, which the host placed there for ENC.* or LZM.RUN only, are not the stream's and leave IN. -/
def appendChunk (chunk : Option (List Byte)) (s : State) : State :=
  match chunk with
  | none => s
  | some bs =>
    { s with
      inMem := (s.inMem.below s.br.inputLength).writeBytes s.br.inputLength bs
      br := { s.br with inputLength := s.br.inputLength + bs.length } }

/-- The first call of a stream honours startOffset (R302, D42). -/
def firstCall (startOffset : Option Nat) (s : State) : Act State :=
  if s.sdec.started then .ok s
  else
    let s := { s with sdec := { s.sdec with started := true } }
    match startOffset with
    | none => .ok s
    | some off =>
      if off > s.br.inputLength then .error (raise .eApi off s)
      else .ok { s with br := { s.br with ip := off } }

/-- A decode of this call's job stands before this element. -/
def streamAt (ph : Phase) (s : State) : State := { s with seq := .decode .stream ph }

/-- Dispatch: where the call goes on, by SDEC.state (R305). -/
def dispatch (s : State) : Act State :=
  match s.sdec.state with
  | .initialized | .blockHeaderStart => .ok (streamAt .blkHdr s)
  | .blockHeaderEnd | .blockBodyStart =>
    match s.dec.btype with
    | .stored => .ok ((streamAt .stored s).streamState .blockBodyStart)
    | .fixed => .ok (useFixedTables ((streamAt .litLen s).streamState .decodeBlockStart))
    | .dynamic => .ok ((streamAt .dynHdr s).streamState .blockBodyStart)
    | .reserved => .error (raise .eBtype s.br.pos s)
  | .blockBodyEnd | .decodeBlockStart =>
    match s.dec.btype with
    | .stored => storedBody ((streamAt .stored s).streamState .decodeBlockStart)
    | _ => .ok ((streamAt .litLen s).streamState .decodeBlockStart)
  | .decodeBlockEnd => .ok (endBlock (streamAt .blkHdr s))

/-- SDEC.CALL after the frame (R302): after the end it returns nothing and changes nothing (R312). -/
def streamCall (chunk : Option (List Byte)) (startOffset : Option Nat) (s : State) : Outcome :=
  if s.status.done then .next (answer (.bytes []) s)
  else
    withInput s fun s =>
      match firstCall startOffset (appendChunk chunk s) with
      | .error s => .next s
      | .ok s =>
        match dispatch s with
        | .error s => .next s
        | .ok s => settle s

/-- SDEC.CALL (R302). -/
def execSdecCall (chunk : Option (List Byte)) (startOffset : Option Nat) (s : State) : Outcome :=
  framed false s (streamCall chunk startOffset)

end Sys2Proof.Machine
end

