-- ==== Sys2Proof/Machine/System.lean ====
section
/-! DEFINITION. The commands that manage the instance (R356): RESET and RD.CONSUMED. Neither runs in the frame of R375. -/

namespace Sys2Proof.Machine

/-- RESET (R370, R372): a fresh instance. What is not the instance's stays: the parameters, the host's pending commands, and
the model's own grain and counter. -/
def execReset (s : State) : Outcome :=
  .next { State.fresh s.params with grain := s.grain, port := s.port, freeCtr := s.freeCtr }

/-- RD.CONSUMED (R315): bytesConsumed; after a fault its value is unspecified (U10). -/
def execRdConsumed (s : State) : Outcome :=
  match s.status.fault with
  | none => .next { s with result := .consumed s.bytesConsumed }
  | some _ => .next { s with result := .consumed (Config.freeNat s.freeCtr), freeCtr := s.freeCtr + 1 }

end Sys2Proof.Machine
end

