-- ==== Sys2Proof/Machine/Issue.lean ====
section
/-! DEFINITION. The host's side of a command (R376): what it writes before it issues the word, the word that is no command
(U14), and the placing of one instruction where the machine takes its next one. -/

namespace Sys2Proof.Machine

/-- CFG.blockType and CFG.bufferStrategy are the selectors of the words 0x28 and 0x30 (R131; log 16). -/
def Cfg.selected (w : BitVec 16) (c : Cfg) : Cfg :=
  match w.toNat with
  | 0x0028 => { c with blockType := some .stored }
  | 0x0128 => { c with blockType := some .fixed }
  | 0x0228 => { c with blockType := some .dynamic }
  | 0x0030 => { c with bufferStrategy := .block }
  | 0x0130 => { c with bufferStrategy := .adaptive }
  | _ => c

/-- The host places input bytes in IN; the reader's own bytes are kept if the new ones begin with them (R76, log 10). -/
def placeInput (bytes : List Byte) (s : State) : State :=
  { s with
    inMem := Memory.ofBytes 0 bytes
    inKept := s.inKept && decide (bytes.take s.br.inputLength = s.inMem.bytes.take s.br.inputLength) }

/-- Steps 2 to 4 of R376: CFG is written, the input is placed, the command leaves the port. -/
def accept (it : Issue) (rest : List Issue) (s : State) : State :=
  let s := { s with port := rest, cfg := Cfg.selected it.word (it.cfg.getD s.cfg) }
  match it.input with
  | some bytes => placeInput bytes s
  | none => s

/-- What a command word that is no command records: the selector for a bad selector (V-ENC-13, V-DEC-39), else 0. -/
def illegalInfo : DecodeError → Nat
  | .badSelector _ selector => selector
  | _ => 0

/-- An unknown operation code or selector: E_API (R135, U14); refused like any command while a fault is recorded. -/
def illegalCommand (e : DecodeError) (s : State) : Outcome :=
  framed false s fun _ => .next (raiseUnchanged (illegalInfo e) s)

/-- The bytes of `n` bits, the first bit lowest (R60); the first argument is how many bytes. -/
def packBits : Nat → Nat → List Byte
  | 0, _ => []
  | n + 1, v => BitVec.ofNat 8 v :: packBits n (v / 2 ^ 8)

/-- A decode table of one symbol of length 1, whose code is the bit 0 (R167). -/
def oneSymbolTable (symbol : Nat) : DecodeTable := { table := [mkEntry 1 symbol, 0], maxLen := 1, minLen := 1 }

/-- These stream bits stand at BR.P = 0 and this element is next. -/
def placeBits (ph : Phase) (bits : Nat) (s : State) : State :=
  { s with
    seq := .decode .adaptive ph
    inMem := Memory.ofBytes 0 (packBits 4 bits), inKept := true
    br := { s.br with ip := 0, acc := 0, acclen := 0, inputLength := 4 } }

/-- An instruction word stands where the machine takes its next instruction from: a command at the head of the port, an
element at BR.P (a symbol as the one symbol of its table, so that its code is one bit), a token at ENC.tokIndex, an entry
as the slot a BR.DECODE has found. -/
def placeWord (format : Format) (w : Nat) (s : State) : State :=
  match format with
  | .cmd =>
    { s with
      seq := .idle, port := { cfg := none, input := none, word := BitVec.ofNat 16 w, ops := {} } :: s.port }
  | .blkHdr => placeBits .blkHdr w s
  | .stored => placeBits .stored w s
  | .dynHdr => placeBits .dynHdr w s
  | .clSym =>
    placeBits .clSym (2 * (w / 2 ^ 5))
      { s with dec := { s.dec with cl := oneSymbolTable (w % 2 ^ 5), hdr := { hlit := 257, hdist := 1, lens := [0] } } }
  | .litLen =>
    placeBits .litLen (2 * (w / 2 ^ 9)) { s with dec := { s.dec with ll := oneSymbolTable (w % 2 ^ 9) } }
  | .dist =>
    if w = 30 ∨ w = 31 then
      placeBits .dist (revBits 5 w) { s with dec := { s.dec with btype := .fixed, d := fixedDistTable } }
    else placeBits .dist (2 * (w / 2 ^ 5)) { s with dec := { s.dec with d := oneSymbolTable (w % 2 ^ 5) } }
  | .token =>
    { s with
      seq := .pack, enc := { s.enc with tokIndex := 0 }
      tok := [slotOf w 0, slotOf w 1, slotOf w 2, slotOf w 3, slotOf w 4, slotOf w 5] }
  | .dte => { s with seq := .lookup 0 15 (BitVec.ofNat 32 w) }

end Sys2Proof.Machine
end

