-- ==== Sys2Proof/Machine/Step.lean ====
section
/-! DEFINITION. One step of the machine: the next command of the port, or one turn of the command that runs. -/

namespace Sys2Proof.Machine

/-- The word of a command is decoded with its operands and run. -/
def runCommand (it : Issue) (s : State) : Outcome :=
  match decode { format := .cmd, word := it.word.toNat, ops := it.ops } with
  | .ok i => exec i s
  | .error e => illegalCommand e s

/-- One turn of the running command: its next element is fetched, decoded and run (R30, R305). -/
def runElement (s : State) : Outcome :=
  match fetchElement s with
  | .error s => .next s
  | .ok (r, s) =>
    match decode r with
    | .ok i => exec i s
    | .error _ => .next (illegalElement r s)

/-- One step. An idle core with no command pending stays as it is: "after reset the core is idle and waits for a command"
(R371). -/
def step (s : State) : Host.Outcome State Fault Refusal :=
  match s.seq with
  | .idle =>
    match s.port with
    | [] => .next s
    | it :: rest => runCommand it (accept it rest s)
  | _ => runElement s

/-- The instruction of a table word stands where `step` takes its next one from (log 1, log 14). -/
def State.withFetchWord (s : State) (nbits w : Nat) : State :=
  match decodeTableWord nbits w with
  | some i => placeWord (encode i).format w s
  | none => placeWord .cmd w s

end Sys2Proof.Machine
end

