-- ==== Sys2Proof/Safety.lean ====
section
/-! DEFINITION. What counts as a safe run, and the terms in which the statements speak of a state: its invariant (R146,
R153), the stream bits the reader stands before (R60, R146), the bits the writer holds (R141). -/

namespace Sys2Proof.Machine

/-- The machine goes on. -/
def Goes (s : State) : Prop := ∃ t, step s = .next t

/-- A run of `n` steps that neither stops nor takes a fault. -/
def SafeRun : Nat → State → Prop
  | 0, s => s.status.fault = none
  | n + 1, s => s.status.fault = none ∧ ∃ t, step s = .next t ∧ SafeRun n t

/-! ## The invariant -/

/-- The accumulator and the saved one hold at most 23 bits, and no bit beyond their length (R22, R153). -/
def Reader.bounded (r : Reader) : Prop :=
  r.acclen ≤ 23 ∧ r.acc < 2 ^ r.acclen ∧ r.save.acclen ≤ 23 ∧ r.save.acc < 2 ^ r.save.acclen

/-- The partial byte holds at most seven bits, and no bit beyond them (R21). -/
def Writer.bounded (w : Writer) : Prop := w.bitIndex ≤ 7 ∧ w.current.toNat < 2 ^ w.bitIndex

/-- Every table the machine holds is indexed by at most 15 bits (R29). -/
def State.tablesBounded (s : State) : Prop :=
  (∀ t ∈ s.built, t.maxLen ≤ 15) ∧ s.dec.ll.maxLen ≤ 15 ∧ s.dec.d.maxLen ≤ 15 ∧ s.dec.cl.maxLen ≤ 15 ∧
    ∀ l ∈ s.dec.hdr.lens, l ≤ 15

/-- The invariant: the byte memories are canonical; after a fault nothing runs (R333); and while no fault is recorded (after
one the registers are unspecified, U1) the reader, the writer and the tables keep their bounds. -/
structure State.Inv (s : State) : Prop where
  inMem  : s.inMem.wf = true
  outMem : s.bw.out.wf = true
  halted : s.status.fault ≠ none → s.seq = .idle
  reader : s.status.fault = none → s.br.bounded
  writer : s.status.fault = none → s.bw.bounded
  tables : s.status.fault = none → s.tablesBounded

/-! ## The stream (R60, R146) -/

/-- Stream bit `k` of a byte memory: bit `k mod 8` of byte `k div 8`. -/
def Memory.bit (m : Memory) (k : Nat) : Bool := ((m.read (k / 8)).getD 0).getLsbD (k % 8)

/-- The `n` stream bits from bit `p` on, as an LSB-first number. -/
def Memory.field (m : Memory) (p : Nat) : Nat → Nat
  | 0 => 0
  | n + 1 => (m.bit p).toNat + 2 * Memory.field m (p + 1) n

/-- The reader stands in its input as R146 says: its bytes are in IN, and the accumulator holds exactly the stream bits
BR.P .. 8*BR.ip - 1. -/
structure State.Reading (s : State) : Prop where
  kept   : s.inKept = true
  length : s.br.inputLength ≤ s.inMem.length
  bytes  : ∀ a < s.br.inputLength, (s.inMem.read a).isSome = true
  within : s.br.ip ≤ s.br.inputLength
  behind : s.br.acclen ≤ 8 * s.br.ip
  width  : s.br.acclen ≤ 23
  held   : s.br.acc = s.inMem.field s.br.pos s.br.acclen

/-- How many bits are still available (R146). -/
def State.avail (s : State) : Nat := 8 * s.br.inputLength - s.br.pos

/-- `n` bits have been consumed and nothing else has changed but how much is loaded ahead (R146). -/
def State.Consumed (n : Nat) (s t : State) : Prop :=
  t.Reading ∧ t.br.pos = s.br.pos + n ∧ t.br.inputLength = s.br.inputLength ∧ t.br.save = s.br.save ∧
    t.br.saved = s.br.saved

/-! ## Fetching (R30) -/

/-- Fetching finds this element and the reader is `n` bits on; nothing else changes but the cursor a try saves (R304),
SDEC.state (R305) and DEC.blocks (R283). -/
def Fetches (f : Format) (word n : Nat) (s : State) : Prop :=
  ∃ t, fetchElement s = .ok ({ format := f, word := word }, t) ∧ t.Reading ∧ t.br.pos = s.br.pos + n ∧
    t.br.inputLength = s.br.inputLength ∧
    t = { s with br := t.br, sdec := { s.sdec with state := t.sdec.state }, dec := { s.dec with blocks := t.dec.blocks } }

/-- Fetching finds the symbol whose code stands at BR.P in this table, and above its `width` bits the extra bits that follow
the code, where all of them are available (R97, R149). -/
def FetchesSymbol (f : Format) (tb : DecodeTable) (width : Nat) (extra : Nat → Nat) (s : State) : Prop :=
  let e := tb.table.getD (s.inMem.field s.br.pos (min tb.maxLen s.avail)) 0
  let n := extra (entrySymbol e)
  tb.maxLen ≤ 15 → entryLength e ≠ 0 → entryLength e ≤ tb.maxLen → entryLength e + n ≤ s.avail →
    Fetches f (entrySymbol e + 2 ^ width * s.inMem.field (s.br.pos + entryLength e) n) (entryLength e + n) s

/-! ## The writer's bits (R141) -/

/-- The bits of a byte, bit 0 first. -/
def byteBits (b : Byte) : List Bool := (List.range 8).map b.getLsbD

/-- The bits of an `n`-bit value, the top one first. -/
def msbBits (v : Nat) : Nat → List Bool
  | 0 => []
  | n + 1 => v.testBit n :: msbBits v n

/-- The bits of an `n`-bit value, bit 0 first. -/
def lsbBits (v n : Nat) : List Bool := (List.range n).map v.testBit

/-- W, the bit stream the writer has made from byte `off` of OUT on: the whole bytes, then the partial one. -/
def Writer.bits (off : Nat) (w : Writer) : List Bool :=
  ((List.range (w.byteIndex - off)).map fun k => byteBits ((w.out.read (off + k)).getD 0)).flatten ++
    msbBits w.current.toNat w.bitIndex

/-- The bits of a byte sequence, in stream order (R60). -/
def bytesBits (bs : List Byte) : List Bool := (bs.map byteBits).flatten

/-! ## Runs -/

/-- `n` steps. -/
def steps : Nat → State → Outcome
  | 0, s => .next s
  | n + 1, s =>
    match step s with
    | .next s => steps n s
    | o => o

/-- The instruction takes this fault in this state (R332). -/
def Raises (i : Instr) (f : FaultCode) (info : Nat) (s : State) : Prop :=
  ∃ t, exec i s = .next t ∧ t.status = { fault := some f, faultInfo := info, done := false, needInput := false } ∧
    t.result = .failed f info ∧ t.seq = .idle ∧ t.cfg = s.cfg ∧ t.port = s.port ∧ t.params = s.params

/-- A unit's command that ends with this result, everything else as it was (R375: it began by clearing needInput). -/
def State.ended (r : Result) (s : State) : State :=
  { s with status := { s.status with needInput := false }, result := r, seq := .idle }

/-- The values R41, R36 and R370 give reset. -/
structure State.FreshBySpec (t : State) : Prop where
  sdec    : t.sdec = { state := .initialized, sp := 0, started := false }
  status  : t.status = { fault := none, faultInfo := 0, done := false, needInput := false }
  counter : t.bytesConsumed = 0
  reader  : t.br.ip = 0 ∧ t.br.acc = 0 ∧ t.br.acclen = 0 ∧ t.br.inputLength = 0 ∧ t.br.saved = false
  writer  : t.bw.byteIndex = 0 ∧ t.bw.bitIndex = 0 ∧ t.bw.current = 0 ∧ t.bw.isOpen = false
  matcher : t.lzm.pos = 0 ∧ t.lzm.skip = 0 ∧ t.lzm.prevValid = false ∧ t.tokCount = 0 ∧ t.chain = []
  decoder : t.dec.bfinal = false ∧ t.dec.btype = .stored ∧ t.dec.op = 0 ∧ t.dec.blockLen = 0 ∧ t.dec.blocks = []
  spaces  : t.inMem = [] ∧ t.dec.out = []
  tables  : t.lenLL.written = false ∧ t.lenD.written = false ∧ t.lenCL.written = false ∧ t.built = []
  cfg     : t.cfg =
    { blockType := none, lazy := 0, outputBuffer := none, outputOffset := 0, startOffset := 0,
      bufferSize := t.params.defaultBufferSize, bufferStrategy := .adaptive, resize := false, growth := none }

/-- A stream is about to begin: what SDEC.INIT and reset leave of the decoder (R300). -/
structure State.FreshStream (s : State) : Prop where
  idle    : s.seq = .idle
  fault   : s.status.fault = none
  done    : s.status.done = false
  sdec    : s.sdec = { state := .initialized, sp := 0, started := false }
  input   : s.inMem = [] ∧ s.inKept = true
  reader  : s.br.ip = 0 ∧ s.br.acc = 0 ∧ s.br.acclen = 0 ∧ s.br.inputLength = 0
  decoder : s.dec.out = [] ∧ s.dec.bfinal = false ∧ s.dec.btype = .stored ∧ s.dec.blockLen = 0

/-- HTB.BUILD makes this triple of some length array (R160, R162). -/
def BuiltTable (tb : DecodeTable) : Prop := ∃ (lens : List Nat) (c : Nat), lengthsOk lens = true ∧ htbBuild lens = .ok (tb, c)

/-- A stream whose last call ended on need-input (R303, R307, R310): every byte of IN is the reader's, everything produced is
delivered, and a block that is being decoded has the tables it was begun with (R265, R270). -/
structure State.Waiting (s : State) : Prop where
  idle      : s.seq = .idle
  fault     : s.status.fault = none
  done      : s.status.done = false
  needInput : s.status.needInput = true
  started   : s.sdec.started = true
  state     : s.sdec.state = .blockHeaderStart ∨ s.sdec.state = .blockBodyStart ∨ s.sdec.state = .decodeBlockStart
  delivered : s.sdec.sp = s.dec.op
  reading   : s.Reading
  input     : ∃ bytes : List Byte, s.inMem = Memory.ofBytes 0 bytes ∧ s.br.inputLength = bytes.length
  tables    : s.sdec.state = .decodeBlockStart → s.dec.btype ≠ .stored → BuiltTable s.dec.ll ∧ BuiltTable s.dec.d

/-- The calls of one stream, chunk by chunk: the bytes they return, one after another, and the last call's state (R309). -/
def feed : List (List Byte) → State → Option (List Byte × State)
  | [], s => some ([], s)
  | c :: rest, s =>
    match exec (.sdecCall (some c) none) s with
    | .next t =>
      match t.result with
      | .bytes bs => (feed rest t).map fun (more, u) => (bs ++ more, u)
      | _ => none
    | _ => none

/-! ## Codes (R110, R112, R113, R204) -/

/-- The canonical code of symbol `i`: shorter codes first, doubled at each length, then increasing symbol order (R110). -/
def canonicalCode (lens : List Nat) (i : Nat) : Nat :=
  let l := lens.getD i 0
  (lens.map fun k => if k = 0 ∨ k ≥ l then 0 else 2 ^ (l - k)).sum + ((lens.take i).filter (· = l)).length

/-- The fixed literal/length code, top bit first (R112). -/
def fixedSymbolBits (s : Nat) : List Bool :=
  if s ≤ 143 then msbBits (0x30 + s) 8
  else if s ≤ 255 then msbBits (0x190 + (s - 144)) 9
  else if s ≤ 279 then msbBits (s - 256) 7
  else msbBits (0xC0 + (s - 280)) 8

/-- The code-length-alphabet lengths of a dynamic header whose 3-bit fields begin at stream bit `p` (R95). -/
def headerLens (m : Memory) (p hclen : Nat) : List Nat :=
  (List.range 19).map fun sym => if clOrder.idxOf sym < hclen then m.field (p + 3 * clOrder.idxOf sym) 3 else 0

/-- The code lengths a code-length symbol appends to those read so far; none for a 16 with nothing before it, and for any
other instruction (R96, R270). -/
def clRun (i : Instr) (lens : List Nat) : Option (List Nat) :=
  match i with
  | .cl0 => some [0]
  | .cl1 => some [1]
  | .cl2 => some [2]
  | .cl3 => some [3]
  | .cl4 => some [4]
  | .cl5 => some [5]
  | .cl6 => some [6]
  | .cl7 => some [7]
  | .cl8 => some [8]
  | .cl9 => some [9]
  | .cl10 => some [10]
  | .cl11 => some [11]
  | .cl12 => some [12]
  | .cl13 => some [13]
  | .cl14 => some [14]
  | .cl15 => some [15]
  | .cl16 x => lens.getLast?.map fun prev => List.replicate (3 + x.toNat) prev
  | .cl17 x => some (List.replicate (3 + x.toNat) 0)
  | .cl18 x => some (List.replicate (11 + x.toNat) 0)
  | _ => none

/-- The lengths that run-length entries stand for (R96), after the lengths `before` (the last one first). -/
def expandRle : List RleEntry → List Nat → List Nat
  | [], _ => []
  | e :: rest, before =>
    let new :=
      if e.symbol ≤ 15 then [e.symbol]
      else if e.symbol = 16 then List.replicate (3 + e.value) (before.headD 0)
      else if e.symbol = 17 then List.replicate (3 + e.value) 0
      else List.replicate (11 + e.value) 0
    new ++ expandRle rest (new.reverse ++ before)

/-- A count that drops trailing zero lengths from `n`, never below `floor` (R240). -/
def Trimmed (floor n : Nat) (lengthAt : Nat → Nat) (k : Nat) : Prop :=
  floor ≤ k ∧ k ≤ n ∧ (∀ i, k ≤ i → i < n → lengthAt i = 0) ∧ (k = floor ∨ lengthAt (k - 1) ≠ 0)

/-- The range of an entry's extra field (R96). -/
def RleEntry.ranged (e : RleEntry) : Prop :=
  (e.symbol ≤ 15 ∧ e.bits = 0 ∧ e.value = 0) ∨ (e.symbol = 16 ∧ e.bits = 2 ∧ e.value < 4) ∨
    (e.symbol = 17 ∧ e.bits = 3 ∧ e.value < 8) ∨ (e.symbol = 18 ∧ e.bits = 7 ∧ e.value < 128)

/-! ## Token streams (R120 to R123, R185) -/

/-- One token of the token stream. -/
inductive Token where
  | lit (b : Nat)
  | eob
  | copy (lc le lv dc de dv : Nat)
deriving DecidableEq, Repr

/-- The slots of a token (R120, R121, R122). -/
def Token.slots : Token → List Slot
  | .lit b => [BitVec.ofNat 16 b]
  | .eob => [256]
  | .copy lc le lv dc de dv => [lc, le, lv, dc, de, dv].map (BitVec.ofNat 16)

/-- The ranges of R120 and R122. -/
def Token.ranged : Token → Prop
  | .lit b => b ≤ 255
  | .eob => True
  | .copy lc le lv dc de dv =>
    257 ≤ lc ∧ lc ≤ 285 ∧ le = lenExtra.getD (lc - 257) 0 ∧ lv < 2 ^ le ∧ dc ≤ 29 ∧ de = distExtra.getD dc 0 ∧ dv < 2 ^ de

/-- A copy of `n` bytes from `d` places back, byte by byte (R276). -/
def copyBytes (d : Nat) : Nat → List Byte → List Byte
  | 0, o => o
  | n + 1, o => copyBytes d n (o ++ [o.getD (o.length - d) 0])

/-- The bytes that tokens stand for; none where a distance reaches before the first byte (R185). -/
def Token.expand : List Token → List Byte → Option (List Byte)
  | [], o => some o
  | .lit b :: rest, o => Token.expand rest (o ++ [BitVec.ofNat 8 b])
  | .eob :: rest, o => Token.expand rest o
  | .copy lc _ lv dc _ dv :: rest, o =>
    let d := distBase.getD dc 0 + dv
    if d ≤ o.length then Token.expand rest (copyBytes d (lenBase.getD (lc - 257) 0 + lv) o) else none

/-- A match of length `l` at distance `d` at position `p` of the input, "{length ∈ [3,258], backwardDistance ∈ [1,32768]}":
it stays inside the input and its bytes are those `d` places back (R25, R176, R179). -/
def IsMatch (data : List Byte) (p l d : Nat) : Prop :=
  3 ≤ l ∧ l ≤ 258 ∧ 1 ≤ d ∧ d ≤ 32768 ∧ d ≤ p ∧ p + l ≤ data.length ∧ ∀ k < l, data[p + k]? = data[p - d + k]?

/-- The match Search finds: no match there is longer, and none of its length is nearer (R176, R177). -/
def BestMatch (data : List Byte) (p l d : Nat) : Prop :=
  IsMatch data p l d ∧ ∀ l' d', IsMatch data p l' d' → l' < l ∨ (l' = l ∧ d ≤ d')

/-- The token of a match (R107, R184). -/
def Token.ofMatch (l d : Nat) : Token :=
  .copy (lengthToken l).1 (lengthToken l).2.1 (lengthToken l).2.2 (distToken d).1 (distToken d).2.1 (distToken d).2.2

/-- The tokens the matcher emits from position `p` on (R172, R176, R177, R180). -/
inductive Token.Chosen (data : List Byte) (lazy : Nat) : Nat → List Token → Prop
  /-- the input is covered -/
  | finish : Token.Chosen data lazy data.length []
  /-- no match: a literal -/
  | literal {p : Nat} {b : Byte} {rest : List Token} (byte : data[p]? = some b) (none : ∀ l d, ¬IsMatch data p l d)
      (more : Token.Chosen data lazy (p + 1) rest) : Token.Chosen data lazy p (.lit b.toNat :: rest)
  /-- a match not shorter than the threshold: taken at once -/
  | taken {p l d : Nat} {rest : List Token} (best : BestMatch data p l d) (long : lazy ≤ l)
      (more : Token.Chosen data lazy (p + l) rest) : Token.Chosen data lazy p (Token.ofMatch l d :: rest)
  /-- a shorter one, deferred, and none strictly longer one place on: committed -/
  | committed {p l d : Nat} {rest : List Token} (best : BestMatch data p l d) (short : l < lazy)
      (next : ∀ l' d', IsMatch data (p + 1) l' d' → l' ≤ l) (more : Token.Chosen data lazy (p + l) rest) :
      Token.Chosen data lazy p (Token.ofMatch l d :: rest)
  /-- a shorter one, deferred, and a strictly longer one place on: a literal, then the longer one -/
  | overtaken {p l d l' d' : Nat} {b : Byte} {rest : List Token} (best : BestMatch data p l d) (short : l < lazy)
      (byte : data[p]? = some b) (next : BestMatch data (p + 1) l' d') (longer : l < l')
      (more : Token.Chosen data lazy (p + 1 + l') rest) :
      Token.Chosen data lazy p (.lit b.toNat :: Token.ofMatch l' d' :: rest)

/-- How many literals there are among tokens. -/
def Token.literals (l : List Token) : Nat := (l.filter fun t => match t with | .lit _ => true | _ => false).length

/-- How many matches there are among tokens. -/
def Token.matches (l : List Token) : Nat := (l.filter fun t => match t with | .copy .. => true | _ => false).length

/-- The bits of a token in the fixed codes (R94, R97, R112, R113). -/
def Token.fixedBits : Token → List Bool
  | .lit b => fixedSymbolBits b
  | .eob => fixedSymbolBits 256
  | .copy lc le lv dc de dv => fixedSymbolBits lc ++ lsbBits lv le ++ msbBits dc 5 ++ lsbBits dv de

/-- The bits of a token in the codes of a block, stored bit-reversed (R97, R210). -/
def Token.blockBits (s : State) : Token → List Bool
  | .lit b => lsbBits (s.codeLL.entries.getD b 0) (s.lenLL.entries.getD b 0)
  | .eob => lsbBits (s.codeLL.entries.getD 256 0) (s.lenLL.entries.getD 256 0)
  | .copy lc le lv dc de dv =>
    lsbBits (s.codeLL.entries.getD lc 0) (s.lenLL.entries.getD lc 0) ++ lsbBits lv le ++
      lsbBits (s.codeD.entries.getD dc 0) (s.lenD.entries.getD dc 0) ++ lsbBits dv de

/-! ## Stored streams (R93, R232) -/

/-- LEN and NLEN, little-endian (R62, R93). -/
def storedLengths (n : Nat) : List Byte :=
  [BitVec.ofNat 8 n, BitVec.ofNat 8 (n / 256), ~~~BitVec.ofNat 8 n, ~~~BitVec.ofNat 8 (n / 256)]

/-- The stored stream of a byte sequence: chunks of at most 65535 bytes, the last one final (R232). The first argument is
fuel: the number of blocks. -/
def storedStream : Nat → List Byte → List Byte
  | 0, _ => []
  | k + 1, data =>
    if data.length ≤ 65535 then 0x01 :: (storedLengths data.length ++ data)
    else 0x00 :: (storedLengths 65535 ++ data.take 65535 ++ storedStream k (data.drop 65535))

/-- ENC.STORED's stream: max(1, ceil(n / 65535)) blocks (R232). -/
def stored (data : List Byte) : List Byte := storedStream (max 1 ((data.length + 65534) / 65535)) data

end Sys2Proof.Machine
end

