-- ==== Sys2Proof/Certificates/Slice0/Obligations.lean ====
section
/-! DEFINITION. The statements about the model. Each docstring names the rule of spec/ it formalises. -/

open Sys2Proof Sys2Proof.Machine

/-! ## The whole machine -/

/-- RESET, in every state, leaves the values that R41, R36 and R370 give, and keeps the parameters (R372); the reset state
is such a state. -/
def Obligations.ResetLeavesTheSpecValues : Prop :=
  State.reset.FreshBySpec ∧
  decode { format := .cmd, word := 0x0000 } = .ok .reset ∧
  ∀ s : State, ∃ t, exec .reset s = .next t ∧ t.FreshBySpec ∧ t.params = s.params ∧ t.seq = .idle

/-- R333: while a fault is recorded every command but RESET and RD.CONSUMED is refused and only reports it again; it stays,
with its faultInfo, through every step but a RESET, which clears it with everything else. -/
def Obligations.CommandsAreRefusedWhileFaulted : Prop :=
  ∀ (s : State) (f : FaultCode), s.status.fault = some f →
    (∀ i, (encode i).format = .cmd → i ≠ .reset → i ≠ .rdConsumed →
      exec i s = .next { s with result := .refused f s.status.faultInfo }) ∧
    (∃ t, exec .reset s = .next t ∧ t.FreshBySpec) ∧
    (∃ t, exec .rdConsumed s = .next t ∧ t.status = s.status) ∧
    (s.seq = .idle → ∀ t, step s = .next t →
      (t.status = s.status ∧ t.seq = .idle) ∨
      (∃ it rest, s.port = it :: rest ∧ it.word = 0x0000 ∧ t.FreshBySpec))

/-- R332 for the whole machine: whatever instruction takes a fault, the command ends there, done and needInput are 0, and
no result is returned. -/
def Obligations.EveryFaultIsTakenAsOneEntry : Prop :=
  ∀ (s t : State) (f : FaultCode), s.status.fault = none → step s = .next t → t.status.fault = some f →
    t.status.done = false ∧ t.status.needInput = false ∧ t.result = .failed f t.status.faultInfo ∧ t.seq = .idle ∧
      t.params = s.params

/-- The model stops in one case only: a BR.READ, BR.DECODE or SDEC.CALL on input the host has taken back (U9, log 10). -/
def Obligations.StepStopsOnlyOnWithdrawnInput : Prop :=
  ∀ s : State, (∃ t, step s = .next t) ∨
    (step s = .fault .inputWithdrawn ∧ s.seq = .idle ∧ ∃ it rest, s.port = it :: rest ∧
      (it.word = 0x0009 ∨ it.word = 0x000A ∨ it.word = 0x0039) ∧
      ¬((accept it rest s).inKept = true ∧ s.br.inputLength ≤ (accept it rest s).inMem.length))

/-- What a step is (R30, R371, R376): an idle core waits; the oldest pending command is taken with the CFG and the input
the host wrote for it, decoded and executed; a running command has its next element fetched, decoded and executed. What is
fetched: the bits at BR.P of a block header (R91), a stored header after the pad (R93, R263), the counts of a dynamic header
(R95), a symbol with its extra bits (R96, R97, R105, R106; a first code-length symbol 16 without any, log 15), a fixed distance
pattern of no symbol, not yet consumed (R45, R133), the token at ENC.tokIndex (R122), the entry found (R126, R149). The
model's own: that commands wait in a port (log 1, DESIGN CHOICE), that a command word's selector (R131) is written to
CFG.blockType or CFG.bufferStrategy (log 16, DEDUCED), and `inKept` (log 10, DEDUCED). -/
def Obligations.StepRunsTheDecodedInstruction : Prop :=
  (∀ s : State, s.seq = .idle → s.port = [] → step s = .next s) ∧
  (∀ (s : State) (it : Issue) (rest : List Issue) (i : Instr), s.seq = .idle → s.port = it :: rest →
    decode { format := .cmd, word := it.word.toNat, ops := it.ops } = .ok i → step s = exec i (accept it rest s)) ∧
  (∀ (s : State) (it : Issue) (rest : List Issue), it.input = none →
    accept it rest s = { s with port := rest, cfg := Cfg.selected it.word (it.cfg.getD s.cfg) }) ∧
  (∀ (s : State) (it : Issue) (rest : List Issue) (bs : List Byte), it.input = some bs →
    accept it rest s =
      { s with
        port := rest, cfg := Cfg.selected it.word (it.cfg.getD s.cfg), inMem := Memory.ofBytes 0 bs
        inKept := s.inKept && decide (bs.take s.br.inputLength = s.inMem.bytes.take s.br.inputLength) }) ∧
  (∀ (w : BitVec 16) (c : Cfg), Cfg.selected w c =
    { c with
      blockType := if w = 0x0028 then some .stored else if w = 0x0128 then some .fixed
        else if w = 0x0228 then some .dynamic else c.blockType
      bufferStrategy := if w = 0x0030 then .block else if w = 0x0130 then .adaptive else c.bufferStrategy }) ∧
  (∀ (s t : State) (r : Raw) (i : Instr), s.seq ≠ .idle → fetchElement s = .ok (r, t) → decode r = .ok i →
    step s = exec i t) ∧
  (∀ s t : State, s.seq ≠ .idle → fetchElement s = .error t → step s = .next t) ∧
  (∀ (s : State) (j : Job) (ph : Phase), s.seq = .decode j ph → s.Reading →
    let bits (p n : Nat) : Nat := s.inMem.field p n
    let pad := 8 * ((s.br.pos + 7) / 8) - s.br.pos
    (ph = .blkHdr → 3 ≤ s.avail → Fetches .blkHdr (bits s.br.pos 3) 3 s) ∧
    (ph = .stored → pad + 32 ≤ s.avail → Fetches .stored (bits (s.br.pos + pad) 32) (pad + 32) s) ∧
    (ph = .dynHdr → 14 ≤ s.avail → Fetches .dynHdr (bits s.br.pos 14) 14 s) ∧
    (ph = .clSym → FetchesSymbol .clSym s.dec.cl 5
      (fun sym => if sym = 16 then (if s.dec.hdr.lens = [] then 0 else 2) else if sym = 17 then 3 else if sym = 18 then 7
        else 0) s) ∧
    (ph = .litLen → FetchesSymbol .litLen s.dec.ll 9
      (fun sym => if sym < 265 ∨ 285 ≤ sym then 0 else (sym - 261) / 4) s) ∧
    (ph = .dist → FetchesSymbol .dist s.dec.d 5 (fun sym => if sym < 4 ∨ 30 ≤ sym then 0 else sym / 2 - 1) s) ∧
    (ph = .dist → s.dec.btype = .fixed → s.dec.d = fixedDistTable → 5 ≤ s.avail →
      (bits s.br.pos 5 = 15 → Fetches .dist 30 0 s) ∧ (bits s.br.pos 5 = 31 → Fetches .dist 31 0 s))) ∧
  (∀ (s : State) (index maxLen : Nat) (e : Entry), s.seq = .lookup index maxLen e →
    fetchElement s = .ok ({ format := .dte, word := e.toNat }, s)) ∧
  ∀ (s : State) (a : Slot) (rest : List Slot), s.seq = .pack → s.tok.drop s.enc.tokIndex = a :: rest →
    (a.toNat ≤ 256 ∨ 286 ≤ a.toNat → fetchElement s = .ok ({ format := .token, word := a.toNat }, s)) ∧
    ∀ (b c d e f : Slot) (more : List Slot), 257 ≤ a.toNat → a.toNat ≤ 285 → rest = b :: c :: d :: e :: f :: more →
      fetchElement s = .ok
        ({ format := .token
           word := a.toNat + 2 ^ 16 * b.toNat + 2 ^ 32 * c.toNat + 2 ^ 48 * d.toNat + 2 ^ 64 * e.toNat +
             2 ^ 80 * f.toNat }, s)

/-- CFG is "read-only to the core" (R35): no instruction but RESET writes it. The parameters never change (R11). -/
def Obligations.OnlyResetWritesTheConfiguration : Prop :=
  (∀ (i : Instr) (s t : State), exec i s = .next t → i ≠ .reset → t.cfg = s.cfg ∧ t.port = s.port) ∧
  ∀ (s t : State), step s = .next t → t.params = s.params ∧ t.grain = s.grain

/-- R64, R78: the core never writes a byte of IN; a stream's call appends its chunk to the stream's input, bytes 0 ..
BR.inputLength-1 (R22, R301), and leaves every byte of it. That bytes beyond leave IN is log 24 (DESIGN CHOICE). -/
def Obligations.InputIsNeverWritten : Prop :=
  ∀ (i : Instr) (s t : State), exec i s = .next t → s.status.fault = none → t.status.fault = none →
    i ≠ .reset → i ≠ .sdecInit →
    (t.inMem = s.inMem ∨ ∃ bs off, i = .sdecCall (some bs) off ∧
      t.inMem = (s.inMem.below s.br.inputLength).writeBytes s.br.inputLength bs ∧
      (∀ a < s.br.inputLength, t.inMem.read a = s.inMem.read a) ∧
      ∀ k b, bs[k]? = some b → t.inMem.read (s.br.inputLength + k) = some b)

/-- The frame of every element of the bit stream (R43, R382): it works on the reader, the decoder's registers, the length
table and builder of a dynamic header, and the status. -/
def Obligations.ElementsTouchOnlyTheDecoder : Prop :=
  ∀ (i : Instr) (s t : State), (encode i).format ≠ .cmd → (encode i).format ≠ .token → exec i s = .next t →
    s.status.fault = none → t.status.fault = none →
    t = { s with
          br := t.br, dec := t.dec, sdec := t.sdec, lenCL := t.lenCL, htb := t.htb, status := t.status
          result := t.result, seq := t.seq } ∧
    t.br.inputLength = s.br.inputLength ∧
    ((encode i).format ≠ .dynHdr → t.lenCL = s.lenCL) ∧
    ((encode i).format ≠ .dynHdr → (encode i).format ≠ .clSym → t.htb = s.htb ∧ t.dec.cl = s.dec.cl)

/-- The invariant holds after reset. -/
def Obligations.ResetMeetsTheInvariant : Prop := State.reset.Inv

/-- R22, R29, R72, R153: every step keeps the canonical form of the byte memories, the width law of the accumulator, the
bounds of the partial byte and of the decode tables; after a fault nothing runs. -/
def Obligations.EveryStepKeepsTheInvariant : Prop :=
  ∀ s t : State, s.Inv → step s = .next t → t.Inv

/-- "each running to completion before the next is accepted" (R3, R13): a command that has turns ends idle. -/
def Obligations.CommandsRunToCompletion : Prop :=
  ∀ (i : Instr) (s t : State), (encode i).format = .cmd → s.grain = .command → s.seq = .idle → exec i s = .next t →
    t.seq = .idle

/-- R390: counting steps in commands or in dispatch turns gives the same results (the two grains: log 1). A command run turn by turn reaches,
after some number of steps, the state it reaches as one step. -/
def Obligations.TurnsMakeUpTheCommand : Prop :=
  ∀ (i : Instr) (s t : State), (encode i).format = .cmd → s.grain = .turn → s.seq = .idle →
    exec i { s with grain := .command } = .next t →
    ∃ u n, exec i s = .next u ∧ steps n u = .next { t with grain := .turn }

/-! ## Encoding -/

/-- Decoding the encoding of a well-formed instruction gives it back (R91 to R97, R120 to R130). -/
def Obligations.DecodingInvertsEncoding : Prop :=
  ∀ i : Instr, i.wellFormed = true → decode (encode i) = .ok i

/-- No bit is dropped: what decodes to an instruction is that instruction's word. -/
def Obligations.EncodingInvertsDecoding : Prop :=
  ∀ (r : Raw) (i : Instr), decode r = .ok i → (encode i).format = r.format ∧ (encode i).word = r.word

/-- Words written out from the tables of R92, R93, R95, R96, R97, R120 to R122, R126, R130. -/
def Obligations.WordsOfTheTablesDecode : Prop :=
  decode { format := .cmd, word := 0b0000000100101000 } = .ok .encFixed ∧
  decode { format := .blkHdr, word := 0b011 } = .ok (.blockFixed true) ∧
  decode { format := .stored, word := 0b11111111111111000000000000000011 } = .ok (.storedHdr 3 0xFFFC) ∧
  decode { format := .dynHdr, word := 0b01110000000000 + 0b00010 + 0b0000100000 } = .ok (.dynHdr 2 1 7) ∧
  decode { format := .clSym, word := 0b0110101_10010 } = .ok (.cl18 53) ∧
  decode { format := .litLen, word := 0b001100001 } = .ok (.lit 97) ∧
  decode { format := .litLen, word := 0b11111_100011100 } = .ok (.len284 31) ∧
  decode { format := .dist, word := 0b1111111111111_11101 } = .ok (.dist29 8191) ∧
  decode { format := .token, word := 0b0000000100000000 } = .ok .tEob ∧
  decode { format := .dte, word := 0b0000000000001000_0000000001100001 } = .ok (.dte 8 97)

/-- U14, R135: a command word outside R130 and R131 is E_API with the state otherwise unchanged (log 3); while a fault is recorded
it is refused. -/
def Obligations.IllegalWordsAreApiFaults : Prop :=
  ∀ (s : State) (it : Issue) (rest : List Issue) (e : DecodeError), s.seq = .idle → s.port = it :: rest →
    decode { format := .cmd, word := it.word.toNat, ops := it.ops } = .error e →
    (s.status.fault = none → ∃ t info, step s = .next t ∧
      t = { accept it rest s with
            status := { fault := some .eApi, faultInfo := info, done := false, needInput := false }
            result := .failed .eApi info } ∧
      ((it.word.toNat % 256 = 0x28 ∨ it.word.toNat % 256 = 0x30) → info = it.word.toNat / 256)) ∧
    (∀ f, s.status.fault = some f →
      step s = .next { accept it rest s with result := .refused f s.status.faultInfo })

/-! ## The bit writer (R140 to R144) -/

/-- R140. -/
def Obligations.BwInitOpensTheWriter : Prop :=
  decode { format := .cmd, word := 0x0001 } = .ok .bwInit ∧
  ∀ s : State, s.status.fault = none → ∃ t, exec .bwInit s = .next t ∧
    t = { s.ended .none with
          bw := { out := t.bw.out, byteIndex := s.cfg.outputOffset, bitIndex := 0, current := 0, isOpen := true } } ∧
    ∀ a, t.bw.out.read a = (s.cfg.outputBuffer.getD [])[a]?

/-- R142: BW.WRITE appends the value's bits to W, LSB-first when `reversed`, else MSB-first; anything else is E_API(n). -/
def Obligations.BwWriteAppendsTheBits : Prop :=
  (∀ o : CmdOps, decode { format := .cmd, word := 0x0002, ops := o } = .ok (.bwWrite o.value o.n o.reversed)) ∧
  ∀ (s : State) (value n : Nat) (reversed : Bool), s.status.fault = none →
    (s.bw.isOpen = true → n ≤ 32 → value < 2 ^ n → ∃ t, exec (.bwWrite value n reversed) s = .next t ∧
      t = { s.ended .none with bw := t.bw } ∧ t.bw.isOpen = true ∧
      (s.bw.bounded → ∀ off, off ≤ s.bw.byteIndex →
        t.bw.bounded ∧ s.bw.byteIndex ≤ t.bw.byteIndex ∧
        t.bw.bits off = s.bw.bits off ++ (if reversed then lsbBits value n else msbBits value n) ∧
        ∀ a, a < s.bw.byteIndex ∨ t.bw.byteIndex ≤ a → t.bw.out.read a = s.bw.out.read a)) ∧
    (¬(s.bw.isOpen = true ∧ n ≤ 32 ∧ value < 2 ^ n) → Raises (.bwWrite value n reversed) .eApi n s)

/-- R144: BW.FINISH pads W with zero bits to a whole byte, returns bytes 0 .. BW.byteIndex-1 and closes the writer; on a
writer not open it is E_API. -/
def Obligations.BwFinishReturnsTheBytes : Prop :=
  decode { format := .cmd, word := 0x0003 } = .ok .bwFinish ∧
  ∀ s : State, s.status.fault = none →
    (s.bw.isOpen = true → ∃ t bs, exec .bwFinish s = .next t ∧
      t = { s.ended (.bytes bs) with bw := t.bw, freeCtr := t.freeCtr } ∧ t.bw.isOpen = false ∧
      t.bw.bitIndex = 0 ∧ bs.length = t.bw.byteIndex ∧
      t.bw.byteIndex = s.bw.byteIndex + (if s.bw.bitIndex = 0 then 0 else 1) ∧
      (∀ a, a < s.bw.byteIndex ∨ t.bw.byteIndex ≤ a → t.bw.out.read a = s.bw.out.read a) ∧
      (∀ a b, a < s.bw.byteIndex → s.bw.out.read a = some b → bs[a]? = some b) ∧
      (s.bw.bounded → s.bw.bitIndex ≠ 0 → ∃ b, bs[s.bw.byteIndex]? = some b ∧
        t.bw.out.read s.bw.byteIndex = some b ∧
        byteBits b = msbBits s.bw.current.toNat s.bw.bitIndex ++ List.replicate (8 - s.bw.bitIndex) false)) ∧
    (s.bw.isOpen = false → Raises .bwFinish .eApi 0 s)

/-! ## The bit reader (R145 to R152) -/

/-- R145. -/
def Obligations.BrInitStartsTheReader : Prop :=
  decode { format := .cmd, word := 0x0008 } = .ok .brInit ∧
  ∀ s : State, s.status.fault = none →
    (s.cfg.startOffset ≤ s.inMem.length → exec .brInit s = .next
      { s.ended .none with
        br := { s.br with ip := s.cfg.startOffset, acc := 0, acclen := 0, inputLength := s.inMem.length }
        inKept := true }) ∧
    (s.cfg.startOffset > s.inMem.length → Raises .brInit .eApi s.cfg.startOffset s)

/-- R147: BR.READ returns the next n stream bits, the first one bit 0, and BR.P advances by n; with fewer than n left it
is EXHAUSTED, which sets needInput (R148, R341), and BR.P stays; above 16 it is E_API. That done keeps its value beside
needInput is log 17 (DEDUCED: R341's "no other effect" against R33). -/
def Obligations.BrReadReturnsTheNextBits : Prop :=
  (∀ o : CmdOps, decode { format := .cmd, word := 0x0009, ops := o } = .ok (.brRead o.n)) ∧
  ∀ (s : State) (n : Nat), s.status.fault = none →
    (s.Reading → n ≤ 16 → n ≤ s.avail → ∃ t, exec (.brRead n) s = .next t ∧
      t = { s.ended (.value (s.inMem.field s.br.pos n)) with br := t.br } ∧ State.Consumed n s t) ∧
    (s.Reading → n ≤ 16 → n > s.avail → ∃ t, exec (.brRead n) s = .next t ∧
      t = { s.ended .exhausted with br := t.br, status := { s.status with needInput := true } } ∧
      State.Consumed 0 s t) ∧
    (n > 16 → Raises (.brRead n) .eApi n s)

/-- R149: BR.DECODE indexes the table with the next bits, missing ones read as 0, and consumes the entry's code length; an
unfilled slot is E_CODE, or EXHAUSTED while bits are missing (needInput is set, R148, R341); R380: a table HTB.BUILD has not
made is E_API. The model's own: that done keeps its value beside needInput (log 17, DEDUCED), faultInfo 0 for a table not made
(log 3, DEDUCED), and which tables count as made (log 23, DESIGN CHOICE). The turn grain is TurnsMakeUpTheCommand's. -/
def Obligations.BrDecodeConsumesOneCode : Prop :=
  ∀ (s : State) (tb : DecodeTable), s.status.fault = none → s.grain = .command →
    (madeByBuilder tb s = false → Raises (.brDecode tb) .eApi 0 s) ∧
    (madeByBuilder tb s = true → s.Reading → tb.maxLen ≤ 15 → (∀ e ∈ tb.table, entryLength e ≤ tb.maxLen) →
      let k := min tb.maxLen s.avail
      let idx := s.inMem.field s.br.pos k
      let e := tb.table.getD idx 0
      (entryLength e = 0 → k < tb.maxLen → ∃ t, exec (.brDecode tb) s = .next t ∧
        t = { s.ended .exhausted with br := t.br, status := { s.status with needInput := true } } ∧
        State.Consumed 0 s t) ∧
      (entryLength e = 0 → k = tb.maxLen → Raises (.brDecode tb) .eCode idx s) ∧
      (entryLength e ≠ 0 → entryLength e > s.avail → ∃ t, exec (.brDecode tb) s = .next t ∧
        t = { s.ended .exhausted with br := t.br, status := { s.status with needInput := true } } ∧
        State.Consumed 0 s t) ∧
      (entryLength e ≠ 0 → entryLength e ≤ s.avail → ∃ t, exec (.brDecode tb) s = .next t ∧
        t = { s.ended (.symbol (entrySymbol e)) with br := t.br } ∧ State.Consumed (entryLength e) s t))

/-- R126, R149: the decode-table entry that BR.DECODE has found; EXHAUSTED sets needInput (R148, R341). That done keeps its
value beside needInput is log 17 (DEDUCED). -/
def Obligations.DecodeTableEntryIsConsumed : Prop :=
  ∀ (s : State) (cl sym : BitVec 16) (index maxLen : Nat) (e : Entry), s.seq = .lookup index maxLen e →
    (cl ≠ 0 → cl.toNat ≤ s.br.acclen → exec (.dte cl sym) s = .next
      { s with
        br := { s.br with acc := s.br.acc / 2 ^ cl.toNat, acclen := s.br.acclen - cl.toNat }
        result := .symbol sym.toNat, seq := .idle }) ∧
    (cl ≠ 0 → cl.toNat > s.br.acclen → exec (.dte cl sym) s = .next
      { s with status := { s.status with needInput := true }, result := .exhausted, seq := .idle }) ∧
    (cl = 0 → s.br.acclen < maxLen → exec (.dte cl sym) s = .next
      { s with status := { s.status with needInput := true }, result := .exhausted, seq := .idle }) ∧
    (cl = 0 → maxLen ≤ s.br.acclen → Raises (.dte cl sym) .eCode index s)

/-- R150: BR.ALIGN discards bits to the next byte boundary. -/
def Obligations.BrAlignReachesTheByteBoundary : Prop :=
  decode { format := .cmd, word := 0x000B } = .ok .brAlign ∧
  ∀ s : State, s.status.fault = none → ∃ t, exec .brAlign s = .next t ∧
    t = { s.ended .none with
          br := { s.br with acc := s.br.acc / 2 ^ (s.br.acclen % 8), acclen := s.br.acclen - s.br.acclen % 8 } } ∧
    (s.br.acclen ≤ 8 * s.br.ip → t.br.pos = 8 * ((s.br.pos + 7) / 8)) ∧
    (s.Reading → t.Reading)

/-- R151: BR.SAVE. -/
def Obligations.BrSaveRecordsTheCursor : Prop :=
  decode { format := .cmd, word := 0x000C } = .ok .brSave ∧
  ∀ s : State, s.status.fault = none → exec .brSave s = .next
    { s.ended .none with
      br := { s.br with save := { ip := s.br.ip, acc := s.br.acc, acclen := s.br.acclen }, saved := true } }

/-- R152: BR.RESTORE; E_API with nothing saved. A cursor saved comes back exactly. -/
def Obligations.BrRestoreReturnsToTheSavedCursor : Prop :=
  decode { format := .cmd, word := 0x000D } = .ok .brRestore ∧
  (∀ s : State, s.status.fault = none →
    (s.br.saved = true → exec .brRestore s = .next
      { s.ended .none with
        br := { s.br with ip := s.br.save.ip, acc := s.br.save.acc, acclen := s.br.save.acclen } }) ∧
    (s.br.saved = false → Raises .brRestore .eApi 0 s)) ∧
  ∀ (s t u v : State) (n : Nat), s.status.fault = none → s.Reading → exec .brSave s = .next t → n ≤ 16 →
    exec (.brRead n) t = .next u → exec .brRestore u = .next v → v.br.pos = s.br.pos ∧ v.Reading

/-- R315: RD.CONSUMED returns ceil(BR.P / 8) and changes nothing; it is accepted after a fault too, with a free
value (U10, log 9). -/
def Obligations.RdConsumedCountsWholeBytes : Prop :=
  decode { format := .cmd, word := 0x003A } = .ok .rdConsumed ∧
  ∀ s : State,
    (s.status.fault = none → exec .rdConsumed s = .next { s with result := .consumed ((s.br.pos + 7) / 8) }) ∧
    (s.status.fault ≠ none → ∃ n, exec .rdConsumed s =
      .next { s with result := .consumed n, freeCtr := s.freeCtr + 1 })

/-! ## The decode-table builder (R160 to R168) -/

/-- R161, R162, R165, R166: HTB.BUILD returns the table `htbBuild` makes of every array that is not over-subscribed (what its
filled slots are: EveryCodeDecodesToItsSymbol): 2^maxLen entries, and a slot that no symbol's code reaches is 0; an
over-subscribed array is E_CODE; R380: a table not yet written is E_API. The model's own: the register operand (log 11, DESIGN
CHOICE), faultInfo 0 for one not yet written (log 3, DEDUCED), and what the working registers hold after the build (log 18,
DEDUCED; log 25, DESIGN CHOICE). -/
def Obligations.HtbBuildMakesATable : Prop :=
  ∀ (s : State) (a : TableArg), s.status.fault = none →
    (∀ lengths, (a = .lit lengths ∨ ∃ al, a = .reg al ∧ (s.lenTable al).written = true ∧
          (s.lenTable al).entries = lengths) →
      lengthsOk lengths = true → lengths.length ≤ 288 →
      (kraftSum 15 lengths ≤ 2 ^ 15 → ∃ t tb codes, exec (.htbBuild a) s = .next t ∧
        t = { s.ended (.table tb) with built := s.built ++ [tb], htb := t.htb } ∧
        htbBuild lengths = .ok (tb, t.htb.code) ∧ t.htb.bitLength = tb.maxLen ∧ ccbCodes lengths = some codes ∧
        (∀ j, j < 2 ^ tb.maxLen → tb.table.getD j 0 ≠ 0 → ∃ i l : Nat, lengths[i]? = some l ∧ 0 < l ∧
          j % 2 ^ l = codes.getD i 0 ∧ tb.table.getD j 0 = mkEntry l i) ∧
        tb.table.length = 2 ^ tb.maxLen ∧ tb.maxLen ≤ 15 ∧
        (∀ l ∈ lengths, l ≤ tb.maxLen) ∧ (tb.maxLen = 0 ∨ tb.maxLen ∈ lengths) ∧
        (∀ l ∈ lengths, l ≠ 0 → tb.minLen ≤ l) ∧ (tb.minLen = 0 ∨ tb.minLen ∈ lengths) ∧
        (tb.minLen = 0 ↔ tb.maxLen = 0)) ∧
      (kraftSum 15 lengths > 2 ^ 15 → ∃ sym, sym < lengths.length ∧ Raises (.htbBuild a) .eCode sym s)) ∧
    (∀ al, a = .reg al → (s.lenTable al).written = false → Raises (.htbBuild a) .eApi 0 s)

/-- R163, the prefix-freeness property: the code that CCB.CODES gives a symbol, followed by any later bits, indexes a slot
of the table HTB.BUILD makes of the same lengths that holds that symbol and its length. -/
def Obligations.EveryCodeDecodesToItsSymbol : Prop :=
  ∀ (lengths codes : List Nat) (tb : DecodeTable) (c : Nat), lengthsOk lengths = true →
    htbBuild lengths = .ok (tb, c) → ccbCodes lengths = some codes →
    ∀ (i l : Nat), lengths[i]? = some l → 0 < l →
      codes.getD i 0 < 2 ^ l ∧
      ∀ j, j < 2 ^ tb.maxLen → j % 2 ^ l = codes.getD i 0 → tb.table[j]? = some (mkEntry l i)

/-- R168: the fixed tables. -/
def Obligations.FixedTablesAreTheBuiltOnes : Prop :=
  (fixedLitLenTable.maxLen = 9 ∧ fixedLitLenTable.minLen = 7 ∧ fixedLitLenTable.table.length = 512 ∧
    ∀ e ∈ fixedLitLenTable.table, e ≠ 0) ∧
  (fixedDistTable.maxLen = 5 ∧ fixedDistTable.minLen = 5 ∧ fixedDistTable.table.length = 32 ∧
    ∀ j < 32, (fixedDistTable.table.getD j 0 = 0 ↔ j = 15 ∨ j = 31)) ∧
  (∃ c, htbBuild fixedLitLens = .ok (fixedLitLenTable, c)) ∧ ∃ c, htbBuild fixedDistLens = .ok (fixedDistTable, c)

/-! ## The matcher (R170 to R185) -/

/-- R170, R172, R181, R183: LZM.RUN is `matchRun` over the whole of IN with CFG.lazy (what its tokens and frequencies are:
TokensReproduceTheInput, FrequenciesCountTheTokens); it visits every position, leaves nothing deferred, and ends TOK with the
end marker, counted once. -/
def Obligations.LzmRunEndsWithTheMarker : Prop :=
  ∀ s : State, s.status.fault = none → ∃ t, exec .lzmRun s = .next t ∧
    t = { s.ended (.tokens t.tok t.freqLL.entries t.freqD.entries) with
          lzm := t.lzm, chain := t.chain, tok := t.tok, freqLL := t.freqLL, freqD := t.freqD } ∧
    matchRun s.inMem.bytes s.cfg.lazy s.lzm =
      { reg := t.lzm, chain := t.chain, tok := t.tok, freqLL := t.freqLL.entries, freqD := t.freqD.entries } ∧
    t.lzm.pos = s.inMem.length ∧ t.lzm.prevValid = false ∧ t.lzm.lazy = s.cfg.lazy ∧
    t.tok.getLast? = some 256 ∧ t.freqLL.entries.getD 256 0 = 1 ∧ t.freqLL.entries.length = 286 ∧
    t.freqD.entries.length = 30 ∧ t.freqLL.written = true ∧ t.freqD.written = true

/-- R185 (a), (b): the tokens are ranged, the end marker is the last one and stands nowhere else (R183), and expanding them
reproduces the input, every distance reaching a byte already reproduced. R172, R176, R177, R180: every match taken is the
longest there, and the nearest of that length; there is a literal only where there is none, or where a match shorter than the
threshold, deferred one place, is overtaken. LzmRunEndsWithTheMarker says it of LZM.RUN. -/
def Obligations.TokensReproduceTheInput : Prop :=
  ∀ (data : List Byte) (lazy : Nat) (m : Matcher), ∃ body : List Token,
    (matchRun data lazy m).tok = ((body ++ [Token.eob]).map Token.slots).flatten ∧
    (∀ t ∈ body, t.ranged ∧ t ≠ Token.eob) ∧ Token.expand (body ++ [Token.eob]) [] = some data ∧
    Token.Chosen data lazy 0 body

/-- R185 (c): the frequencies count the tokens, the end marker among them (90_conflicts.md C5). -/
def Obligations.FrequenciesCountTheTokens : Prop :=
  ∀ (data : List Byte) (lazy : Nat) (m : Matcher), ∃ toks : List Token,
    (matchRun data lazy m).tok = (toks.map Token.slots).flatten ∧ (∀ t ∈ toks, t.ranged) ∧
    (matchRun data lazy m).freqLL.sum = Token.literals toks + Token.matches toks + 1 ∧
    (matchRun data lazy m).freqD.sum = Token.matches toks

/-! ## The code builder (R201 to R219) -/

/-- R202: CCB.LENGTHS: no symbol, one symbol, too many symbols, else the parameter CodeLengths (log 5, DESIGN CHOICE; its
contract: CodeLengthsMeetTheContract). R380: a table not yet written is E_API. The model's own: that a register operand's
table is written, under any limit (log 27, DESIGN CHOICE), and a literal one writes none (log 11, DESIGN CHOICE), faultInfo 0
for a table not yet written (log 3, DEDUCED), and E_API with the limit for a limit outside 1..15 (log 12, DESIGN CHOICE). -/
def Obligations.CcbLengthsFollowsTheSteps : Prop :=
  (∀ (s : State) (a : TableArg) (limit : Nat), s.status.fault = none → limit = 0 ∨ 15 < limit →
    Raises (.ccbLengths a limit) .eApi limit s) ∧
  ∀ (s : State) (a : TableArg) (limit : Nat), s.status.fault = none → 1 ≤ limit → limit ≤ 15 →
    (∀ freq : List Nat,
      (a = .lit freq ∨ ∃ al, a = .reg al ∧ (s.freqTable al).written = true ∧ (s.freqTable al).entries = freq) →
      let used := (freq.filter (· > 0)).length
      let wrote (t : State) (lens : List Nat) : Prop :=
        (∀ f, a = .lit f → t = s.ended (.lengths lens)) ∧
        (∀ al, a = .reg al → t = (s.ended (.lengths lens)).putLens al lens)
      (used = 0 → ∃ t, exec (.ccbLengths a limit) s = .next t ∧ wrote t (freq.map fun _ => 0)) ∧
      (used = 1 → ∃ t, exec (.ccbLengths a limit) s = .next t ∧ wrote t (freq.map fun f => if f > 0 then 1 else 0)) ∧
      (2 ≤ used → used ≤ 2 ^ limit → ∃ t, exec (.ccbLengths a limit) s = .next t ∧
        wrote t (codeLengths s.params freq limit)) ∧
      (used > 2 ^ limit → Raises (.ccbLengths a limit) .eApi used s)) ∧
    (∀ al, a = .reg al → (s.freqTable al).written = false → Raises (.ccbLengths a limit) .eApi 0 s)

/-- R210: CCB.CODES gives every symbol its canonical code, bit-reversed, and 0 to an unused one; an over-subscribed table
is E_API, and so is one not yet written (R380). The model's own: that a register operand's code table is written and a literal
one writes none (log 11, DESIGN CHOICE), and faultInfo 0 for a table not yet written (log 3, DEDUCED). -/
def Obligations.CcbCodesAreCanonical : Prop :=
  (∀ o : CmdOps, decode { format := .cmd, word := 0x0021, ops := o } = .ok (.ccbCodes o.source)) ∧
  (∀ (s : State) (a : TableArg) (lens : List Nat), s.status.fault = none → lengthsOk lens = true →
    (a = .lit lens ∨ ∃ al, a = .reg al ∧ (s.lenTable al).written = true ∧ (s.lenTable al).entries = lens) →
    (kraftSum 15 lens ≤ 2 ^ 15 → ∃ t codes, exec (.ccbCodes a) s = .next t ∧
      (∀ l, a = .lit l → t = s.ended (.codes codes)) ∧
      (∀ al, a = .reg al → t = (s.ended (.codes codes)).putCodes al codes) ∧
      codes.length = lens.length ∧
      ∀ i, i < lens.length → codes.getD i 0 = revBits (lens.getD i 0) (canonicalCode lens i)) ∧
    (kraftSum 15 lens > 2 ^ 15 → Raises (.ccbCodes a) .eApi 0 s)) ∧
  ∀ (s : State) (al : Alphabet), s.status.fault = none → (s.lenTable al).written = false →
    Raises (.ccbCodes (.reg al)) .eApi 0 s

/-- R219: expanding the run-length entries gives the lengths back, every entry is in range, and freqCL counts them. The model's own: that it runs, and
without a fault, on a number of lengths outside R215's 258 to 316 (log 12, DESIGN CHOICE). -/
def Obligations.RleExpandsToItsInput : Prop :=
  ∀ (s : State) (src : List Nat), s.status.fault = none → lengthsOk src = true →
    ∃ t es freq, exec (.ccbRle src) s = .next t ∧
      t = { s.ended (.rle es freq) with rle := es, freqCL := { written := true, entries := freq } } ∧
      expandRle es [] = src ∧ (∀ e ∈ es, e.ranged) ∧ es.length ≤ src.length ∧
      (∀ k e, es[k]? = some e → e.symbol = 16 → ∃ v, (expandRle (es.take k) []).getLast? = some v ∧ v ≠ 0) ∧
      freq = (List.range 19).map fun k => (es.filter (·.symbol = k)).length

/-! ## The encoder (R230 to R246) -/

/-- R231, R232: ENC.STORED returns the head of the caller's buffer and then the stored blocks of the input. -/
def Obligations.EncStoredSplitsIntoBlocks : Prop :=
  decode { format := .cmd, word := 0x0028 } = .ok .encStored ∧
  ∀ s : State, s.status.fault = none → s.cfg.outputOffset ≤ (s.cfg.outputBuffer.getD []).length →
    ∃ t, exec .encStored s = .next t ∧
      t.result = .bytes ((s.cfg.outputBuffer.getD []).take s.cfg.outputOffset ++ stored s.inMem.bytes) ∧
      t.enc.chunkPos = s.inMem.length ∧ t.bw.isOpen = false ∧
      t.bw.byteIndex = s.cfg.outputOffset + (stored s.inMem.bytes).length ∧
      (∀ a, a < s.cfg.outputOffset ∨ t.bw.byteIndex ≤ a → t.bw.out.read a = (s.cfg.outputBuffer.getD [])[a]?) ∧
      t = { s with
            bw := t.bw, enc := { s.enc with chunkPos := t.enc.chunkPos }, freeCtr := t.freeCtr, result := t.result
            status := { s.status with done := true, needInput := false }, seq := .idle }

/-- R236: ENC.FIXED returns the head of the caller's buffer and then one final fixed block: the bits 1 and 1,0, the tokens
of the matcher in the fixed codes, zero bits to the byte boundary. The offset lies in the caller's buffer (beyond it the
bytes between are free, U5, log 8); the turn grain is TurnsMakeUpTheCommand's. -/
def Obligations.EncFixedWritesOneFixedBlock : Prop :=
  decode { format := .cmd, word := 0x0128 } = .ok .encFixed ∧
  ∀ s : State, s.status.fault = none → s.grain = .command → s.cfg.outputOffset ≤ (s.cfg.outputBuffer.getD []).length →
    ∃ (t : State) (bs : List Byte) (toks : List Token) (pad : Nat), exec .encFixed s = .next t ∧
      t.result = .bytes ((s.cfg.outputBuffer.getD []).take s.cfg.outputOffset ++ bs) ∧
      t.tok = (matchRun s.inMem.bytes s.cfg.lazy s.lzm).tok ∧ t.tok = (toks.map Token.slots).flatten ∧
      (∀ k ∈ toks, k.ranged) ∧ pad < 8 ∧ t.bw.isOpen = false ∧ t.bw.byteIndex = s.cfg.outputOffset + bs.length ∧
      (∀ a, a < s.cfg.outputOffset ∨ t.bw.byteIndex ≤ a → t.bw.out.read a = (s.cfg.outputBuffer.getD [])[a]?) ∧
      bytesBits bs = [true, true, false] ++ (toks.map Token.fixedBits).flatten ++ List.replicate pad false ∧
      t = { s with
            bw := t.bw, enc := { s.enc with tokIndex := t.enc.tokIndex }, freeCtr := t.freeCtr, result := t.result
            lzm := t.lzm, chain := t.chain, tok := t.tok, freqLL := t.freqLL, freqD := t.freqD
            lenLL := t.lenLL, lenD := t.lenD, codeLL := t.codeLL, codeD := t.codeD
            status := { s.status with done := true, needInput := false }, seq := .idle }

/-- R240: ENC.DYNAMIC returns the head of the caller's buffer and then one final dynamic block in the order of R95, for
every input on which the parameter CodeLengths gives lengths that meet R204 (a), (b) and (c) (R204: decodability needs nothing
more; CodeLengthsMeetTheContract: they do). The codes are those CCB.CODES gives the lengths (R210). -/
def Obligations.EncDynamicWritesOneDynamicBlock : Prop :=
  decode { format := .cmd, word := 0x0228 } = .ok .encDynamic ∧
  ∀ (s : State) (lensLL lensD lensCL : List Nat) (hlit hdist : Nat), s.status.fault = none → s.grain = .command →
    s.cfg.outputOffset ≤ (s.cfg.outputBuffer.getD []).length →
    let run := matchRun s.inMem.bytes s.cfg.lazy s.lzm
    let usable (freq : List Nat) (limit : Nat) (lens : List Nat) : Prop :=
      ccbLengths s.params freq limit = .ok lens ∧ lens.length = freq.length ∧
        (∀ i < freq.length, freq.getD i 0 = 0 ↔ lens.getD i 0 = 0) ∧ (∀ l ∈ lens, l ≤ limit) ∧
        kraftSum limit lens ≤ 2 ^ limit
    usable run.freqLL 15 lensLL → usable run.freqD 7 lensD →
    Trimmed 257 286 (fun i => lensLL.getD i 0) hlit → Trimmed 1 30 (fun i => lensD.getD i 0) hdist →
    usable (rleFreq (rleOf (lensLL.take hlit ++ lensD.take hdist))) 7 lensCL →
    ∃ (t : State) (bs : List Byte) (toks : List Token) (pad : Nat), exec .encDynamic s = .next t ∧
      t.result = .bytes ((s.cfg.outputBuffer.getD []).take s.cfg.outputOffset ++ bs) ∧
      t.bw.isOpen = false ∧ t.bw.byteIndex = s.cfg.outputOffset + bs.length ∧
      (∀ a, a < s.cfg.outputOffset ∨ t.bw.byteIndex ≤ a → t.bw.out.read a = (s.cfg.outputBuffer.getD [])[a]?) ∧
      t.lenLL.entries = lensLL ∧ t.lenD.entries = lensD ∧ t.lenCL.entries = lensCL ∧
      ccbCodes lensLL = some t.codeLL.entries ∧ ccbCodes lensD = some t.codeD.entries ∧
      ccbCodes lensCL = some t.codeCL.entries ∧
      t.freqLL.entries = run.freqLL ∧ t.freqD.entries = run.freqD ∧ t.freqCL.entries = rleFreq t.rle ∧
      t.enc.hlit = hlit ∧ t.enc.hdist = hdist ∧
      Trimmed 4 19 (fun i => lensCL.getD (clOrder.getD i 0) 0) t.enc.hclen ∧
      t.rle = rleOf (lensLL.take hlit ++ lensD.take hdist) ∧
      t.tok = run.tok ∧ t.tok = (toks.map Token.slots).flatten ∧ (∀ k ∈ toks, k.ranged) ∧ pad < 8 ∧
      bytesBits bs =
        [true, false, true] ++ lsbBits (hlit - 257) 5 ++ lsbBits (hdist - 1) 5 ++ lsbBits (t.enc.hclen - 4) 4 ++
        ((clOrder.take t.enc.hclen).map fun sym => lsbBits (lensCL.getD sym 0) 3).flatten ++
        (t.rle.map fun e => lsbBits (t.codeCL.entries.getD e.symbol 0) (lensCL.getD e.symbol 0) ++
          lsbBits e.value e.bits).flatten ++
        (toks.map (Token.blockBits t)).flatten ++ List.replicate pad false ∧
      t = { s with
            bw := t.bw, enc := { t.enc with chunkPos := s.enc.chunkPos }, freeCtr := t.freeCtr, result := t.result
            lzm := t.lzm, chain := t.chain, tok := t.tok, rle := t.rle
            freqLL := t.freqLL, freqD := t.freqD, freqCL := t.freqCL
            lenLL := t.lenLL, lenD := t.lenD, lenCL := t.lenCL
            codeLL := t.codeLL, codeD := t.codeD, codeCL := t.codeCL
            status := { s.status with done := true, needInput := false }, seq := .idle }

/-- R235: a token's code goes to the writer, then its extra fields; the end marker's ends the stream, padded to a whole byte
(R231, R144). -/
def Obligations.TokensArePacked : Prop :=
  ∀ s : State, s.bw.isOpen = true → s.bw.bounded →
    let coded (lens codes : Table) (k : Nat) : Prop :=
      lens.entries.getD k 0 ≠ 0 ∧ lens.entries.getD k 0 ≤ 15 ∧ codes.entries.getD k 0 < 2 ^ lens.entries.getD k 0
    let wrote (bits : List Bool) (t : State) : Prop :=
      t.bw.bounded ∧ s.bw.byteIndex ≤ t.bw.byteIndex ∧
      (∀ off ≤ s.bw.byteIndex, t.bw.bits off = s.bw.bits off ++ bits) ∧
      ∀ a, a < s.bw.byteIndex ∨ t.bw.byteIndex ≤ a → t.bw.out.read a = s.bw.out.read a
    (∀ b : Byte, coded s.lenLL s.codeLL b.toNat → ∃ t, exec (.tLit b) s = .next t ∧
      t = { s with bw := t.bw, enc := { s.enc with tokIndex := s.enc.tokIndex + 1 } } ∧ t.bw.isOpen = true ∧
      wrote (Token.blockBits s (.lit b.toNat)) t) ∧
    (coded s.lenLL s.codeLL 256 → ∃ (t : State) (bs : List Byte) (pad : Nat), exec .tEob s = .next t ∧
      t = { s with
            bw := t.bw, freeCtr := t.freeCtr, result := .bytes bs, status := { s.status with done := true }
            seq := .idle } ∧
      t.bw.isOpen = false ∧ t.bw.bitIndex = 0 ∧ pad < 8 ∧
      wrote (Token.blockBits s .eob ++ List.replicate pad false) t ∧ bs.length = t.bw.byteIndex ∧
      ∀ a b, a < t.bw.byteIndex → t.bw.out.read a = some b → bs[a]? = some b) ∧
    (∀ (lc : BitVec 8) (le lv dc de dv : Slot), 1 ≤ lc.toNat → lc.toNat ≤ 29 → dc.toNat ≤ 29 →
      le.toNat = lenExtra.getD (lc.toNat - 1) 0 → lv.toNat < 2 ^ le.toNat →
      de.toNat = distExtra.getD dc.toNat 0 → dv.toNat < 2 ^ de.toNat →
      coded s.lenLL s.codeLL (256 + lc.toNat) → coded s.lenD s.codeD dc.toNat →
      ∃ t, exec (.tMatch lc le lv dc de dv) s = .next t ∧
        t = { s with bw := t.bw, enc := { s.enc with tokIndex := s.enc.tokIndex + 6 } } ∧ t.bw.isOpen = true ∧
        wrote (Token.blockBits s (.copy (256 + lc.toNat) le.toNat lv.toNat dc.toNat de.toNat dv.toNat)) t)

/-- R235, R238: a symbol without a code, a slot out of range, an extra field that does not match its table, are E_API with
the offending slot. -/
def Obligations.BadTokensAreApiFaults : Prop :=
  ∀ s : State, s.bw.isOpen = true →
    (∀ b : Byte, s.lenLL.entries.getD b.toNat 0 = 0 → Raises (.tLit b) .eApi b.toNat s) ∧
    (s.lenLL.entries.getD 256 0 = 0 → Raises .tEob .eApi 256 s) ∧
    (∀ (lc : BitVec 8) (le lv dc de dv : Slot),
      (lc.toNat > 29 ∨ s.lenLL.entries.getD (256 + lc.toNat) 0 = 0 →
        Raises (.tMatch lc le lv dc de dv) .eApi (256 + lc.toNat) s) ∧
      (1 ≤ lc.toNat → lc.toNat ≤ 29 →
        s.lenLL.entries.getD (256 + lc.toNat) 0 ≠ 0 → s.lenLL.entries.getD (256 + lc.toNat) 0 ≤ 15 →
        s.codeLL.entries.getD (256 + lc.toNat) 0 < 2 ^ s.lenLL.entries.getD (256 + lc.toNat) 0 →
        (dc.toNat > 29 ∨ s.lenD.entries.getD dc.toNat 0 = 0 →
          Raises (.tMatch lc le lv dc de dv) .eApi dc.toNat s) ∧
        (dc.toNat ≤ 29 → s.lenD.entries.getD dc.toNat 0 ≠ 0 →
          (le.toNat ≠ lenExtra.getD (lc.toNat - 1) 0 ∨ lv.toNat ≥ 2 ^ le.toNat ∨
            de.toNat ≠ distExtra.getD dc.toNat 0 ∨ dv.toNat ≥ 2 ^ de.toNat) →
          Raises (.tMatch lc le lv dc de dv) .eApi (256 + lc.toNat) s)))

/-! ## The elements of the bit stream (R261 to R277) -/

/-- R261, R265, R305: a block header sets DEC.bfinal and DEC.btype and says what comes next; the reserved type is
E_BTYPE with the position after the header. -/
def Obligations.BlockHeadersSelectTheBlock : Prop :=
  ∀ (s : State) (j : Job) (ph : Phase) (f : Bool), s.seq = .decode j ph →
    let state (x : SdecState) : Sdec := if j = .stream then { s.sdec with state := x } else s.sdec
    exec (.blockStored f) s = .next
      { s with
        dec := { s.dec with bfinal := f, btype := .stored }, sdec := state .blockBodyStart, seq := .decode j .stored } ∧
    exec (.blockFixed f) s = .next
      { s with
        dec := { s.dec with bfinal := f, btype := .fixed, ll := fixedLitLenTable, d := fixedDistTable }
        sdec := state .decodeBlockStart, seq := .decode j .litLen } ∧
    exec (.blockDynamic f) s = .next
      { s with
        dec := { s.dec with bfinal := f, btype := .dynamic }, sdec := state .blockBodyStart
        seq := .decode j .dynHdr } ∧
    Raises (.blockReserved f) .eBtype s.br.pos s

/-- R263, R264: a stored header is verified, then LEN raw bytes of IN are appended to O and the block ends. -/
def Obligations.StoredBlockCopiesItsBytes : Prop :=
  ∀ (s : State) (j : Job) (ph : Phase) (len nlen : BitVec 16), s.seq = .decode j ph →
    (len ^^^ nlen ≠ 0xFFFF → Raises (.storedHdr len nlen) .eLenVerify len.toNat s) ∧
    (len ^^^ nlen = 0xFFFF → j ≠ .stream → 8 * len.toNat > s.avail →
      Raises (.storedHdr len nlen) .eTruncated s.br.pos s) ∧
    (len ^^^ nlen = 0xFFFF → s.Reading → s.br.pos % 8 = 0 → 8 * len.toNat ≤ s.avail →
      (j = .block ∨ ∀ m, s.params.maxOutputBytes = some m → s.dec.op + len.toNat ≤ m) →
      ∃ t, exec (.storedHdr len nlen) s = .next t ∧
        t.dec.out = s.dec.out ++
          (List.range len.toNat).map (fun k => (s.inMem.read (s.br.pos / 8 + k)).getD 0) ∧
        State.Consumed (8 * len.toNat) s t ∧
        t = { s with
              br := t.br, result := t.result, seq := t.seq, status := t.status
              sdec := if j = .stream then t.sdec else s.sdec
              dec := { s.dec with
                       out := t.dec.out, blockLen := 0, blocks := if j = .block then t.dec.blocks else s.dec.blocks } } ∧
        (s.dec.bfinal = true → t.status = { s.status with done := true } ∧ t.seq = .idle ∧
          (j = .adaptive → t.result = .bytes t.dec.out) ∧
          (j = .stream → t.result = .bytes (t.dec.out.drop s.sdec.sp) ∧ t.sdec.sp = t.dec.op)) ∧
        (s.dec.bfinal = false → t.status = s.status ∧ t.result = s.result ∧ t.seq = .decode j .blkHdr))

/-- R270, R272: the counts of a dynamic header are checked, its code-length lengths are read in the permutation order and
their table is built; an over-subscribed one is E_HEADER. That HLIT is reported where both counts are illegal is log 19
(DEDUCED). -/
def Obligations.DynamicHeaderBuildsTheCodeLengthTable : Prop :=
  ∀ (s : State) (j : Job) (ph : Phase) (hlit hdist : BitVec 5) (hclen : BitVec 4), s.seq = .decode j ph →
    (hlit.toNat > 29 → Raises (.dynHdr hlit hdist hclen) .eHeader (hlit.toNat + 257) s) ∧
    (hlit.toNat ≤ 29 → hdist.toNat > 29 → Raises (.dynHdr hlit hdist hclen) .eHeader (hdist.toNat + 1) s) ∧
    (hlit.toNat ≤ 29 → hdist.toNat ≤ 29 → s.Reading → 3 * (hclen.toNat + 4) ≤ s.avail →
      let lens := headerLens s.inMem s.br.pos (hclen.toNat + 4)
      (kraftSum 7 lens ≤ 2 ^ 7 → ∃ t, exec (.dynHdr hlit hdist hclen) s = .next t ∧
        State.Consumed (3 * (hclen.toNat + 4)) s t ∧ htbBuild lens = .ok (t.dec.cl, t.htb.code) ∧
        t = { s with
              br := t.br, lenCL := { written := true, entries := lens }, htb := t.htb
              dec := { s.dec with
                       cl := t.dec.cl, hdr := { hlit := hlit.toNat + 257, hdist := hdist.toNat + 1, lens := [] } }
              seq := .decode j .clSym }) ∧
      (kraftSum 7 lens > 2 ^ 7 → Raises (.dynHdr hlit hdist hclen) .eHeader 0 s))

/-- R96, R103, R270, R271: a code-length symbol appends its lengths while more are to come; a repeat past HLIT + HDIST, or a
16 with nothing before it, is E_HEADER. -/
def Obligations.CodeLengthSymbolsAppendTheirLengths : Prop :=
  ∀ (s : State) (j : Job) (ph : Phase) (i : Instr) (new : List Nat), s.seq = .decode j ph →
    let total := s.dec.hdr.hlit + s.dec.hdr.hdist
    (clRun i s.dec.hdr.lens = some new → s.dec.hdr.lens.length + new.length < total → exec i s = .next
      { s with
        dec := { s.dec with hdr := { s.dec.hdr with lens := s.dec.hdr.lens ++ new } }, seq := .decode j .clSym }) ∧
    (clRun i s.dec.hdr.lens = some new → s.dec.hdr.lens.length < total → s.dec.hdr.lens.length + new.length > total →
      Raises i .eHeader new.length s) ∧
    (∀ x, s.dec.hdr.lens = [] → Raises (.cl16 x) .eHeader 16 s)

/-- R270: the code-length symbol that completes the HLIT + HDIST lengths splits them and builds both tables; an
over-subscribed one is E_HEADER. -/
def Obligations.LastCodeLengthSymbolBuildsTheTables : Prop :=
  ∀ (s : State) (j : Job) (ph : Phase) (i : Instr) (new : List Nat), s.seq = .decode j ph →
    clRun i s.dec.hdr.lens = some new →
    s.dec.hdr.lens.length + new.length = s.dec.hdr.hlit + s.dec.hdr.hdist →
    (∀ l ∈ s.dec.hdr.lens, l ≤ 15) →
    let ll := (s.dec.hdr.lens ++ new).take s.dec.hdr.hlit
    let d := (s.dec.hdr.lens ++ new).drop s.dec.hdr.hlit
    (kraftSum 15 ll ≤ 2 ^ 15 → kraftSum 15 d ≤ 2 ^ 15 → ∃ t c, exec i s = .next t ∧
      htbBuild ll = .ok (t.dec.ll, c) ∧ htbBuild d = .ok (t.dec.d, t.htb.code) ∧ t.seq = .decode j .litLen ∧
      t = { s with
            htb := t.htb, seq := t.seq
            dec := { s.dec with
                     ll := t.dec.ll, d := t.dec.d, hdr := { s.dec.hdr with lens := s.dec.hdr.lens ++ new } }
            sdec := if j = .stream then { s.sdec with state := .decodeBlockStart } else s.sdec }) ∧
    (kraftSum 15 ll > 2 ^ 15 ∨ kraftSum 15 d > 2 ^ 15 → Raises i .eHeader 0 s)

/-- R273, R277: a literal appends its byte to O; at the ceiling it is E_OVERFLOW, but never under the Fixed-window
strategy. -/
def Obligations.LiteralAppendsItsByte : Prop :=
  ∀ (s : State) (j : Job) (ph : Phase) (b : Byte), s.seq = .decode j ph →
    (j = .block ∨ s.params.maxOutputBytes ≠ some s.dec.op → exec (.lit b) s = .next
      { s with dec := { s.dec with out := s.dec.out ++ [b] }, seq := .decode j .litLen }) ∧
    (j ≠ .block → s.params.maxOutputBytes = some s.dec.op → Raises (.lit b) .eOverflow s.dec.op s)

/-- R260, R273, R305: the end-of-block symbol ends the stream iff BFINAL is 1, else the next block header follows. -/
def Obligations.EndOfBlockEndsTheStreamIfFinal : Prop :=
  ∀ (s : State) (j : Job) (ph : Phase), s.seq = .decode j ph →
    (s.dec.bfinal = false → exec .eob s = .next
      { s with
        sdec := if j = .stream then { s.sdec with state := .initialized } else s.sdec, seq := .decode j .blkHdr }) ∧
    (s.dec.bfinal = true → j = .stream → exec .eob s = .next
      { s with
        status := { s.status with done := true }, result := .bytes (s.dec.out.drop s.sdec.sp)
        sdec := { s.sdec with state := .decodeBlockEnd, sp := s.dec.op }, seq := .idle }) ∧
    (s.dec.bfinal = true → j = .adaptive → exec .eob s = .next
      { s with status := { s.status with done := true }, result := .bytes s.dec.out, seq := .idle }) ∧
    (s.dec.bfinal = true → j = .block → s.dec.blocks.flatten <+: s.dec.out → exec .eob s = .next
      { s with status := { s.status with done := true }, result := .bytes s.dec.out, seq := .idle })

/-- R101, R105: each length symbol gives `base + extra` and its distance follows. -/
def Obligations.LengthSymbolsGiveTheirLength : Prop :=
  ∀ (s : State) (j : Job) (ph : Phase), s.seq = .decode j ph →
    let gives (i : Instr) (n : Nat) : Prop :=
      exec i s = .next { s with dec := { s.dec with matchLen := n }, seq := .decode j .dist }
    gives .len257 3 ∧ gives .len258 4 ∧ gives .len259 5 ∧ gives .len260 6 ∧ gives .len261 7 ∧ gives .len262 8 ∧
    gives .len263 9 ∧ gives .len264 10 ∧
    (∀ x, gives (.len265 x) (11 + x.toNat)) ∧ (∀ x, gives (.len266 x) (13 + x.toNat)) ∧
    (∀ x, gives (.len267 x) (15 + x.toNat)) ∧ (∀ x, gives (.len268 x) (17 + x.toNat)) ∧
    (∀ x, gives (.len269 x) (19 + x.toNat)) ∧ (∀ x, gives (.len270 x) (23 + x.toNat)) ∧
    (∀ x, gives (.len271 x) (27 + x.toNat)) ∧ (∀ x, gives (.len272 x) (31 + x.toNat)) ∧
    (∀ x, gives (.len273 x) (35 + x.toNat)) ∧ (∀ x, gives (.len274 x) (43 + x.toNat)) ∧
    (∀ x, gives (.len275 x) (51 + x.toNat)) ∧ (∀ x, gives (.len276 x) (59 + x.toNat)) ∧
    (∀ x, gives (.len277 x) (67 + x.toNat)) ∧ (∀ x, gives (.len278 x) (83 + x.toNat)) ∧
    (∀ x, gives (.len279 x) (99 + x.toNat)) ∧ (∀ x, gives (.len280 x) (115 + x.toNat)) ∧
    (∀ x, gives (.len281 x) (131 + x.toNat)) ∧ (∀ x, gives (.len282 x) (163 + x.toNat)) ∧
    (∀ x, gives (.len283 x) (195 + x.toNat)) ∧ (∀ x, gives (.len284 x) (227 + x.toNat)) ∧ gives .len285 258

/-- R102, R106, R275, R276: each distance symbol gives `base + extra`; the match is copied, the byte `k` of the copy being
the one `distance - (k mod distance)` before the old end of O; a distance beyond the output is E_DISTANCE; R277: a copy
that would pass the ceiling is E_OVERFLOW with the ceiling, but never under the Fixed-window strategy. -/
def Obligations.DistanceSymbolsCopyTheMatch : Prop :=
  ∀ (s : State) (j : Job) (ph : Phase), s.seq = .decode j ph →
    let gives (i : Instr) (d : Nat) : Prop :=
      (d ≤ s.dec.op → (j = .block ∨ ∀ m, s.params.maxOutputBytes = some m → s.dec.op + s.dec.matchLen ≤ m) →
        exec i s = .next
        { s with
          dec := { s.dec with
                   out := s.dec.out ++
                     (List.range s.dec.matchLen).map fun k => s.dec.out.getD (s.dec.out.length - d + k % d) 0 }
          seq := .decode j .litLen }) ∧
      (d > s.dec.op → Raises i .eDistance d s) ∧
      (∀ m, d ≤ s.dec.op → j ≠ .block → s.params.maxOutputBytes = some m → s.dec.op ≤ m →
        m < s.dec.op + s.dec.matchLen → Raises i .eOverflow m s)
    gives .dist0 1 ∧ gives .dist1 2 ∧ gives .dist2 3 ∧ gives .dist3 4 ∧
    (∀ x, gives (.dist4 x) (5 + x.toNat)) ∧ (∀ x, gives (.dist5 x) (7 + x.toNat)) ∧
    (∀ x, gives (.dist6 x) (9 + x.toNat)) ∧ (∀ x, gives (.dist7 x) (13 + x.toNat)) ∧
    (∀ x, gives (.dist8 x) (17 + x.toNat)) ∧ (∀ x, gives (.dist9 x) (25 + x.toNat)) ∧
    (∀ x, gives (.dist10 x) (33 + x.toNat)) ∧ (∀ x, gives (.dist11 x) (49 + x.toNat)) ∧
    (∀ x, gives (.dist12 x) (65 + x.toNat)) ∧ (∀ x, gives (.dist13 x) (97 + x.toNat)) ∧
    (∀ x, gives (.dist14 x) (129 + x.toNat)) ∧ (∀ x, gives (.dist15 x) (193 + x.toNat)) ∧
    (∀ x, gives (.dist16 x) (257 + x.toNat)) ∧ (∀ x, gives (.dist17 x) (385 + x.toNat)) ∧
    (∀ x, gives (.dist18 x) (513 + x.toNat)) ∧ (∀ x, gives (.dist19 x) (769 + x.toNat)) ∧
    (∀ x, gives (.dist20 x) (1025 + x.toNat)) ∧ (∀ x, gives (.dist21 x) (1537 + x.toNat)) ∧
    (∀ x, gives (.dist22 x) (2049 + x.toNat)) ∧ (∀ x, gives (.dist23 x) (3073 + x.toNat)) ∧
    (∀ x, gives (.dist24 x) (4097 + x.toNat)) ∧ (∀ x, gives (.dist25 x) (6145 + x.toNat)) ∧
    (∀ x, gives (.dist26 x) (8193 + x.toNat)) ∧ (∀ x, gives (.dist27 x) (12289 + x.toNat)) ∧
    (∀ x, gives (.dist28 x) (16385 + x.toNat)) ∧ (∀ x, gives (.dist29 x) (24577 + x.toNat))

/-- R133, R274, R45: the symbols without meaning: 286 and 287 are E_SYMBOL, the fixed distance patterns 30 and 31 E_CODE
at the unfilled slots they index. -/
def Obligations.SymbolsWithoutMeaningFault : Prop :=
  ∀ s : State, Raises .llInvalid286 .eSymbol 286 s ∧ Raises .llInvalid287 .eSymbol 287 s ∧
    Raises .distInvalid30 .eCode (revBits 5 30) s ∧ Raises .distInvalid31 .eCode (revBits 5 31) s ∧
    fixedDistTable.table.getD (revBits 5 30) 0 = 0 ∧ fixedDistTable.table.getD (revBits 5 31) 0 = 0

/-! ## The decoders -/

/-- R260 to R264, R273: both decoders return the bytes of a stored stream that begins at CFG.startOffset, whatever follows it
(R262), and bytesConsumed marks its end; and so they do the bytes that tokens stand for from one final block of the tokens in
the fixed codes, the form in which ENC.FIXED writes its input (R287: EncFixedWritesOneFixedBlock, TokensReproduceTheInput),
where the ceiling, which binds Adaptive only (R277), admits them; no input left is
E_TRUNCATED, an offset beyond the input E_API. -/
def Obligations.DecodersReturnAStoredStream : Prop :=
  ∀ (s : State) (i : Instr), i = .decBlock ∨ i = .decAdaptive → s.status.fault = none → s.grain = .command →
    (∀ head data tail : List Byte,
      (i = .decBlock ∨ ∀ m, s.params.maxOutputBytes = some m → data.length ≤ m) → s.cfg.startOffset = head.length →
      s.inMem = Memory.ofBytes 0 (head ++ stored data ++ tail) →
      ∃ t, exec i s = .next t ∧ t.dec.out = data ∧ t.bytesConsumed = head.length + (stored data).length ∧
        t = { s with
              br := t.br, inKept := true, dec := t.dec, status := { s.status with done := true, needInput := false }
              result := .bytes data, seq := .idle }) ∧
    (∀ (head bs tail data : List Byte) (body : List Token) (pad : Nat),
      (i = .decBlock ∨ ∀ m, s.params.maxOutputBytes = some m → data.length ≤ m) → s.cfg.startOffset = head.length →
      s.inMem = Memory.ofBytes 0 (head ++ bs ++ tail) → pad < 8 →
      bytesBits bs = [true, true, false] ++ ((body ++ [Token.eob]).map Token.fixedBits).flatten ++ List.replicate pad false →
      (∀ k ∈ body, k.ranged ∧ k ≠ Token.eob) → Token.expand body [] = some data →
      ∃ t, exec i s = .next t ∧ t.dec.out = data ∧ t.bytesConsumed = head.length + bs.length ∧
        t = { s with
              br := t.br, inKept := true, dec := t.dec, status := { s.status with done := true, needInput := false }
              result := .bytes data, seq := .idle }) ∧
    (s.cfg.startOffset = s.inMem.length → Raises i .eTruncated (8 * s.cfg.startOffset) s) ∧
    (s.cfg.startOffset > s.inMem.length → Raises i .eApi s.cfg.startOffset s)

/-- R285: the two strategies return the same result, status and position on the same input, but that E_OVERFLOW arises only
under Adaptive; CFG.bufferSize and CFG.growth change no result. -/
def Obligations.BufferStrategiesAgree : Prop :=
  ∀ s t u : State, s.grain = .command → s.status.fault = none → exec .decBlock s = .next t →
    exec .decAdaptive s = .next u →
    t.status.fault ≠ some .eOverflow ∧
    (u.status.fault ≠ some .eOverflow → t.result = u.result ∧ t.status = u.status ∧
      (t.status.fault = none → t.br = u.br ∧ t.dec.out = u.dec.out)) ∧
    ∀ (size : Nat) (growth : Option Config.GrowthOverride) (i : Instr) (v w : State), i = .decBlock ∨ i = .decAdaptive →
      exec i s = .next v →
      exec i { s with cfg := { s.cfg with bufferSize := size, growth := growth } } = .next w →
      w.result = v.result ∧ w.status = v.status ∧ (v.status.fault = none → w.br = v.br ∧ w.dec.out = v.dec.out)

/-! ## The streaming decoder (R300 to R313) -/

/-- R300. -/
def Obligations.SdecInitBeginsAStream : Prop :=
  decode { format := .cmd, word := 0x0038 } = .ok .sdecInit ∧
  State.reset.FreshStream ∧
  (∀ (s : State) (f : FaultCode), s.status.fault = some f →
    exec .sdecInit s = .next { s with result := .refused f s.status.faultInfo }) ∧
  ∀ s : State, s.status.fault = none → ∃ t, exec .sdecInit s = .next t ∧ t.FreshStream ∧
    t = { s with
          sdec := { state := .initialized, sp := 0, started := false }, inMem := [], inKept := true
          br := { s.br with ip := 0, acc := 0, acclen := 0, inputLength := 0 }
          dec := { s.dec with out := [], bfinal := false, btype := .stored, blockLen := 0 }
          status := { s.status with done := false, needInput := false }, result := .none, seq := .idle }

/-- R302, R312, R313: a fresh stream that is given a whole stored stream in one chunk returns its bytes and is done; a
call after that returns nothing and changes nothing; a call on a fresh stream without input waits. The start offset counts
on a stream's first call only; beyond the input it is E_API. -/
def Obligations.SdecCallReturnsAStoredStream : Prop :=
  (∀ (s : State) (head data tail : List Byte) (off : Option Nat), s.FreshStream → s.grain = .command →
    (∀ m, s.params.maxOutputBytes = some m → data.length ≤ m) → (off = none ∧ head = []) ∨ off = some head.length →
    ∃ t, exec (.sdecCall (some (head ++ stored data ++ tail)) off) s = .next t ∧
      t.sdec = { state := .decodeBlockEnd, sp := data.length, started := true } ∧
      t.bytesConsumed = head.length + (stored data).length ∧
      t = { s with
            inMem := Memory.ofBytes 0 (head ++ stored data ++ tail), br := t.br, dec := t.dec, sdec := t.sdec
            status := { s.status with done := true, needInput := false }, result := .bytes data }) ∧
  (∀ (s : State) (chunk : Option (List Byte)) (off : Option Nat), s.status.fault = none → s.status.done = true →
    exec (.sdecCall chunk off) s = .next (s.ended (.bytes []))) ∧
  (∀ s : State, s.FreshStream → s.grain = .command → ∃ t, exec (.sdecCall none none) s = .next t ∧
    t.result = .bytes [] ∧ t.status.needInput = true ∧ t.status.done = false ∧ t.br.pos = 0 ∧ t.dec.out = []) ∧
  (∀ (s : State) (chunk : Option (List Byte)) (off : Nat), s.FreshStream → off > (chunk.getD []).length →
    Raises (.sdecCall chunk (some off)) .eApi off s) ∧
  (∀ (s : State) (chunk : Option (List Byte)) (off : Option Nat), s.sdec.started = true →
    exec (.sdecCall chunk off) s = exec (.sdecCall chunk none) s)

/-- R303, R307, R310: a call that does not fault is over, done or waiting but not both, in one of the states R307 names; it
returns exactly what is new in O, and O only grows. -/
def Obligations.SdecCallDeliversWhatIsNew : Prop :=
  ∀ (s t : State) (chunk : Option (List Byte)) (off : Option Nat), s.seq = .idle → s.grain = .command →
    s.status.fault = none → s.status.done = false → exec (.sdecCall chunk off) s = .next t → t.status.fault = none →
    t.seq = .idle ∧ s.dec.out <+: t.dec.out ∧ t.result = .bytes (t.dec.out.drop s.sdec.sp) ∧
      t.sdec.sp = t.dec.out.length ∧ (t.status.done = true ↔ t.status.needInput = false) ∧
      (t.status.done = true → t.sdec.state = .decodeBlockEnd ∧ t.dec.bfinal = true) ∧
      (t.status.needInput = true →
        t.sdec.state = .blockHeaderStart ∨ t.sdec.state = .blockBodyStart ∨ t.sdec.state = .decodeBlockStart)

/-- R304, R338: a streaming call never raises E_TRUNCATED. -/
def Obligations.SdecCallNeverTruncates : Prop :=
  ∀ (s t : State) (chunk : Option (List Byte)) (off : Option Nat), s.seq = .idle → s.grain = .command →
    s.status.fault = none → exec (.sdecCall chunk off) s = .next t → t.status.fault ≠ some .eTruncated

/-- R313: on a stream that waits for input a call without input changes nothing and waits again. -/
def Obligations.WaitingCallChangesNothing : Prop :=
  ∀ (s t : State) (bytes : List Byte) (chunk : Option (List Byte)) (off : Option Nat), s.seq = .idle →
    s.grain = .command → s.status.fault = none → s.inMem = Memory.ofBytes 0 bytes →
    exec (.sdecCall chunk off) s = .next t → t.status.needInput = true →
    ∀ off', exec (.sdecCall none off') t = .next { t with result := .bytes [] }

/-- R309: what follows of a stream, from its beginning or from where it waits, cut into any chunks, gives the same bytes as in
one chunk, ends the same way and at the same place; and where it ends waiting it is again such a stream (R307). -/
def Obligations.ChunkingDoesNotChangeTheStream : Prop :=
  ∀ (s u : State) (chunks : List (List Byte)), s.FreshStream ∨ s.Waiting → s.grain = .command → chunks ≠ [] →
    exec (.sdecCall (some chunks.flatten) none) s = .next u → u.status.fault = none →
    ∃ bs t, feed chunks s = some (bs, t) ∧ u.result = .bytes bs ∧ t.status = u.status ∧ t.br.pos = u.br.pos ∧
      t.dec.out = u.dec.out ∧ (t.status.needInput = true → t.Waiting)

/-! ## The contract of CodeLengths (R204) -/

/-- R201, R202, R204 (a), (b), (c): on at most 2^L used symbols CCB.LENGTHS has lengths; they are 0 exactly at the unused symbols,
at most L, and satisfy the Kraft inequality. The parameter CodeLengths is the model's data (log 5, DESIGN CHOICE); (d) is no part
of it. -/
def Obligations.CodeLengthsMeetTheContract : Prop :=
  ∀ (p : Config.Params) (freq : List Nat) (limit : Nat), 1 ≤ limit → (freq.filter (· > 0)).length ≤ 2 ^ limit →
    ∃ lens, ccbLengths p freq limit = .ok lens ∧ lens.length = freq.length ∧
      (∀ i < freq.length, freq.getD i 0 = 0 ↔ lens.getD i 0 = 0) ∧ (∀ l ∈ lens, l ≤ limit) ∧
      kraftSum limit lens ≤ 2 ^ limit
end

