-- ==== Sys2Proof/Laws/Memory.lean ====
section
/-! SUPPORT. The byte memories: every operation keeps the canonical form; a read after a write. -/

namespace Sys2Proof.Machine

/-- The canonical form as a proposition. -/
theorem Memory.wf_iff (m : Memory) : m.wf = true ↔ (m.map Prod.fst).Pairwise (· < ·) := by simp [Memory.wf]

theorem Memory.wf_nil : Memory.wf [] = true := rfl

theorem Memory.wf_cons (a : Nat) (v : Byte) (m : Memory) :
    Memory.wf ((a, v) :: m) = true ↔ (∀ c ∈ m, a < c.1) ∧ m.wf = true := by
  simp only [Memory.wf_iff, List.map_cons, List.pairwise_cons, List.mem_map]
  constructor
  · rintro ⟨h, h'⟩; exact ⟨fun c hc => h _ ⟨c, hc, rfl⟩, h'⟩
  · rintro ⟨h, h'⟩; refine ⟨?_, h'⟩; rintro _ ⟨c, hc, rfl⟩; exact h c hc

/-- The addresses a write leaves are the old ones and its own. -/
theorem Memory.mem_write {a : Nat} {v : Byte} {m : Memory} {c : Host.Cell} (h : c ∈ m.write a v) : c = (a, v) ∨ c ∈ m := by
  induction m with
  | nil => simpa [Memory.write] using h
  | cons x rest ih =>
    obtain ⟨b, w⟩ := x
    rw [Memory.write] at h
    split at h
    · simpa using h
    · split at h
      · rcases List.mem_cons.1 h with h | h <;> simp [h]
      · rcases List.mem_cons.1 h with h | h
        · simp [h]
        · rcases ih h with h | h <;> simp [h]

/-- A write keeps the canonical form. -/
theorem Memory.write_wf (a : Nat) (v : Byte) (m : Memory) (h : m.wf = true) : (m.write a v).wf = true := by
  induction m with
  | nil => rfl
  | cons x rest ih =>
    obtain ⟨b, w⟩ := x
    have h' := (Memory.wf_cons b w rest).1 h
    rw [Memory.write]
    split
    · rename_i hab
      refine (Memory.wf_cons _ _ _).2 ⟨?_, h⟩
      intro c hc
      rcases List.mem_cons.1 hc with rfl | hc
      · exact hab
      · exact hab.trans (h'.1 c hc)
    · split
      · rename_i hab; subst hab; exact (Memory.wf_cons _ _ _).2 h'
      · refine (Memory.wf_cons _ _ _).2 ⟨?_, ih h'.2⟩
        intro c hc
        rcases Memory.mem_write hc with rfl | hc
        · simp only; omega
        · exact h'.1 c hc

/-- A read at the address just written gives the byte written. -/
theorem Memory.read_write_same (a : Nat) (v : Byte) (m : Memory) : (m.write a v).read a = some v := by
  induction m with
  | nil => simp [Memory.write, Memory.read]
  | cons x rest ih =>
    obtain ⟨b, w⟩ := x
    rw [Memory.write]
    split
    · simp [Memory.read]
    · split
      · simp [Memory.read]
      · rename_i h; rw [Memory.read, if_neg (Ne.symm h)]; exact ih

/-- A write leaves every other address alone. -/
theorem Memory.read_write_other {a b : Nat} (v : Byte) (m : Memory) (h : b ≠ a) : (m.write a v).read b = m.read b := by
  induction m with
  | nil => simp [Memory.write, Memory.read, h.symm]
  | cons x rest ih =>
    obtain ⟨c, w⟩ := x
    rw [Memory.write]
    split
    · rw [Memory.read, if_neg h.symm]
    · split
      · rename_i hac; subst hac; simp [Memory.read, h.symm]
      · simp only [Memory.read, ih]

/-- Bytes laid out are canonical, and their addresses are at or above the first. -/
theorem Memory.ofBytes_wf (a : Nat) (bs : List Byte) :
    (Memory.ofBytes a bs).wf = true ∧ ∀ c ∈ Memory.ofBytes a bs, a ≤ c.1 := by
  induction bs generalizing a with
  | nil => simp [Memory.ofBytes, Memory.wf_nil]
  | cons b bs ih =>
    obtain ⟨h, h'⟩ := ih (a + 1)
    refine ⟨(Memory.wf_cons _ _ _).2 ⟨fun c hc => h' c hc, h⟩, ?_⟩
    intro c hc
    rcases List.mem_cons.1 hc with rfl | hc
    · exact Nat.le_refl _
    · exact (Nat.le_succ a).trans (h' c hc)

/-- What bytes laid out read as. -/
theorem Memory.read_ofBytes (a k : Nat) (bs : List Byte) : (Memory.ofBytes a bs).read (a + k) = bs[k]? := by
  induction bs generalizing a k with
  | nil => simp [Memory.ofBytes, Memory.read]
  | cons b bs ih =>
    rw [Memory.ofBytes, Memory.read]
    cases k with
    | zero => simp
    | succ k => rw [if_neg (by omega), show a + (k + 1) = a + 1 + k by omega, ih]; simp

theorem Memory.length_ofBytes (a : Nat) (bs : List Byte) : (Memory.ofBytes a bs).length = bs.length := by
  induction bs generalizing a with
  | nil => rfl
  | cons b bs ih => simp [Memory.ofBytes, ih]

theorem Memory.bytes_ofBytes (a : Nat) (bs : List Byte) : (Memory.ofBytes a bs).bytes = bs := by
  induction bs generalizing a with
  | nil => rfl
  | cons b bs ih => simpa [Memory.ofBytes, Memory.bytes] using ih (a + 1)

/-- Bytes written one after another keep the canonical form. -/
theorem Memory.writeBytes_wf (a : Nat) (bs : List Byte) (m : Memory) (h : m.wf = true) :
    (Memory.writeBytes a bs m).wf = true := by
  induction bs generalizing a m with
  | nil => exact h
  | cons b bs ih => exact ih (a + 1) _ (Memory.write_wf a b m h)

/-- Bytes written from `a` leave every address below `a` and at or above their end alone. -/
theorem Memory.read_writeBytes_other (a b : Nat) (bs : List Byte) (m : Memory) (h : b < a ∨ a + bs.length ≤ b) :
    (Memory.writeBytes a bs m).read b = m.read b := by
  induction bs generalizing a m with
  | nil => rfl
  | cons x bs ih =>
    rw [Memory.writeBytes, ih (a + 1) _ (by simp at h; omega), Memory.read_write_other _ _ (by simp at h; omega)]

/-- The cells below an address are canonical. -/
theorem Memory.below_wf (a : Nat) (m : Memory) (h : m.wf = true) : (m.below a).wf = true := by
  rw [Memory.wf_iff] at h ⊢
  exact h.sublist (List.filter_sublist.map _)

/-- What the cells below an address read as. -/
theorem Memory.read_below (a b : Nat) (m : Memory) : (m.below a).read b = if b < a then m.read b else none := by
  induction m with
  | nil => simp [Memory.below, Memory.read]
  | cons x rest ih =>
    obtain ⟨c, w⟩ := x
    unfold Memory.below at ih ⊢
    rw [List.filter_cons, Memory.read]
    by_cases hb : c = b
    · subst hb
      by_cases hc : c < a <;> simp [hc, Memory.read, ih]
    · by_cases hc : c < a <;> simp [hc, hb, Memory.read, ih]

/-- Nothing is cut off bytes laid out within the bound. -/
theorem Memory.below_ofBytes (n a : Nat) (bs : List Byte) (h : a + bs.length ≤ n) :
    (Memory.ofBytes a bs).below n = Memory.ofBytes a bs := by
  induction bs generalizing a with
  | nil => rfl
  | cons b bs ih =>
    simp only [List.length_cons] at h
    have ih := ih (a + 1) (by omega)
    unfold Memory.below at ih ⊢
    rw [Memory.ofBytes, List.filter_cons, if_pos (by simp; omega), ih]

/-- The canonical memory of any cells is canonical. -/
theorem Memory.ofCells_wf (cells : List Host.Cell) : (Memory.ofCells cells).wf = true := by
  have : ∀ (m : Memory), m.wf = true → (cells.foldl (fun m c => Memory.write c.1 c.2 m) m).wf = true := by
    induction cells with
    | nil => exact fun m h => h
    | cons c cells ih => exact fun m h => ih _ (Memory.write_wf _ _ _ h)
  exact this [] Memory.wf_nil

/-- Reset memory is canonical. -/
theorem reset_memory_wf : State.reset.inMem.wf = true ∧ State.reset.bw.out.wf = true := ⟨rfl, rfl⟩

/-- The writer keeps OUT canonical. -/
theorem Writer.pushBit_wf (w : Writer) (bit : Bool) (h : w.out.wf = true) : (w.pushBit bit).out.wf = true := by
  unfold Writer.pushBit
  split
  · exact Memory.write_wf _ _ _ h
  · exact h

theorem Writer.pushBits_wf (v n : Nat) (w : Writer) (h : w.out.wf = true) : (w.pushBits v n).out.wf = true := by
  induction n generalizing w with
  | zero => exact h
  | succ n ih => exact ih _ (Writer.pushBit_wf w _ h)

theorem Writer.flush_wf (w : Writer) (h : w.out.wf = true) : w.flush.out.wf = true := by
  unfold Writer.flush
  split
  · exact Memory.write_wf _ _ _ h
  · exact h

theorem bwInit_wf (s : State) : (bwInit s).bw.out.wf = true := (Memory.ofBytes_wf _ _).1

/-- A fault leaves canonical memories (U1). -/
theorem raise_wf (f : FaultCode) (info : Nat) (s : State) :
    (raise f info s).inMem.wf = true ∧ (raise f info s).bw.out.wf = true := ⟨Memory.ofCells_wf _, Memory.ofCells_wf _⟩

/-- A chunk keeps IN canonical. -/
theorem appendChunk_wf (chunk : Option (List Byte)) (s : State) (h : s.inMem.wf = true) :
    (appendChunk chunk s).inMem.wf = true := by
  cases chunk with
  | none => exact h
  | some bs => exact Memory.writeBytes_wf _ _ _ (Memory.below_wf _ _ h)

/-- A chunk leaves every byte of the stream so far alone (R301). -/
theorem appendChunk_read (chunk : Option (List Byte)) (s : State) (a : Nat) (h : a < s.br.inputLength) :
    (appendChunk chunk s).inMem.read a = s.inMem.read a := by
  cases chunk with
  | none => rfl
  | some bs =>
    rw [appendChunk, Memory.read_writeBytes_other _ _ _ _ (.inl h), Memory.read_below, if_pos h]

/-- What the host places is canonical. -/
theorem accept_wf (it : Issue) (rest : List Issue) (s : State) (h : s.inMem.wf = true) :
    (accept it rest s).inMem.wf = true := by
  unfold accept
  cases it.input with
  | none => exact h
  | some bytes => exact (Memory.ofBytes_wf 0 bytes).1

end Sys2Proof.Machine
end

