-- ==== Sys2Proof/Laws/State.lean ====
section
/-! SUPPORT. What each named update does to each field of State: one lemma per field, so that no proof unfolds a record
update. A field a named update changes in more than one way has its lemma beside the operation (Laws/Ops.lean). -/

namespace Sys2Proof.Machine

/-! ### record -/

@[simp] theorem record_params (f : FaultCode) (info : Nat) (s : State) : (record f info s).params = s.params := rfl
@[simp] theorem record_grain (f : FaultCode) (info : Nat) (s : State) : (record f info s).grain = s.grain := rfl
@[simp] theorem record_port (f : FaultCode) (info : Nat) (s : State) : (record f info s).port = s.port := rfl
@[simp] theorem record_result (f : FaultCode) (info : Nat) (s : State) : (record f info s).result = .failed f info := rfl
@[simp] theorem record_freeCtr (f : FaultCode) (info : Nat) (s : State) : (record f info s).freeCtr = s.freeCtr := rfl
@[simp] theorem record_seq (f : FaultCode) (info : Nat) (s : State) : (record f info s).seq = .idle := rfl
@[simp] theorem record_status (f : FaultCode) (info : Nat) (s : State) : (record f info s).status = { fault := some f, faultInfo := info, done := false, needInput := false } := rfl
@[simp] theorem record_cfg (f : FaultCode) (info : Nat) (s : State) : (record f info s).cfg = s.cfg := rfl
@[simp] theorem record_inMem (f : FaultCode) (info : Nat) (s : State) : (record f info s).inMem = s.inMem := rfl
@[simp] theorem record_inKept (f : FaultCode) (info : Nat) (s : State) : (record f info s).inKept = s.inKept := rfl
@[simp] theorem record_bw (f : FaultCode) (info : Nat) (s : State) : (record f info s).bw = s.bw := rfl
@[simp] theorem record_br (f : FaultCode) (info : Nat) (s : State) : (record f info s).br = s.br := rfl
@[simp] theorem record_htb (f : FaultCode) (info : Nat) (s : State) : (record f info s).htb = s.htb := rfl
@[simp] theorem record_built (f : FaultCode) (info : Nat) (s : State) : (record f info s).built = s.built := rfl
@[simp] theorem record_lzm (f : FaultCode) (info : Nat) (s : State) : (record f info s).lzm = s.lzm := rfl
@[simp] theorem record_chain (f : FaultCode) (info : Nat) (s : State) : (record f info s).chain = s.chain := rfl
@[simp] theorem record_tok (f : FaultCode) (info : Nat) (s : State) : (record f info s).tok = s.tok := rfl
@[simp] theorem record_freqLL (f : FaultCode) (info : Nat) (s : State) : (record f info s).freqLL = s.freqLL := rfl
@[simp] theorem record_freqD (f : FaultCode) (info : Nat) (s : State) : (record f info s).freqD = s.freqD := rfl
@[simp] theorem record_freqCL (f : FaultCode) (info : Nat) (s : State) : (record f info s).freqCL = s.freqCL := rfl
@[simp] theorem record_lenLL (f : FaultCode) (info : Nat) (s : State) : (record f info s).lenLL = s.lenLL := rfl
@[simp] theorem record_lenD (f : FaultCode) (info : Nat) (s : State) : (record f info s).lenD = s.lenD := rfl
@[simp] theorem record_lenCL (f : FaultCode) (info : Nat) (s : State) : (record f info s).lenCL = s.lenCL := rfl
@[simp] theorem record_codeLL (f : FaultCode) (info : Nat) (s : State) : (record f info s).codeLL = s.codeLL := rfl
@[simp] theorem record_codeD (f : FaultCode) (info : Nat) (s : State) : (record f info s).codeD = s.codeD := rfl
@[simp] theorem record_codeCL (f : FaultCode) (info : Nat) (s : State) : (record f info s).codeCL = s.codeCL := rfl
@[simp] theorem record_rle (f : FaultCode) (info : Nat) (s : State) : (record f info s).rle = s.rle := rfl
@[simp] theorem record_enc (f : FaultCode) (info : Nat) (s : State) : (record f info s).enc = s.enc := rfl
@[simp] theorem record_dec (f : FaultCode) (info : Nat) (s : State) : (record f info s).dec = s.dec := rfl
@[simp] theorem record_sdec (f : FaultCode) (info : Nat) (s : State) : (record f info s).sdec = s.sdec := rfl

/-! ### raise -/

@[simp] theorem raise_params (f : FaultCode) (info : Nat) (s : State) : (raise f info s).params = s.params := rfl
@[simp] theorem raise_grain (f : FaultCode) (info : Nat) (s : State) : (raise f info s).grain = s.grain := rfl
@[simp] theorem raise_port (f : FaultCode) (info : Nat) (s : State) : (raise f info s).port = s.port := rfl
@[simp] theorem raise_result (f : FaultCode) (info : Nat) (s : State) : (raise f info s).result = .failed f info := rfl
@[simp] theorem raise_freeCtr (f : FaultCode) (info : Nat) (s : State) : (raise f info s).freeCtr = s.freeCtr + 1 := rfl
@[simp] theorem raise_seq (f : FaultCode) (info : Nat) (s : State) : (raise f info s).seq = .idle := rfl
@[simp] theorem raise_status (f : FaultCode) (info : Nat) (s : State) : (raise f info s).status = { fault := some f, faultInfo := info, done := false, needInput := false } := rfl
@[simp] theorem raise_cfg (f : FaultCode) (info : Nat) (s : State) : (raise f info s).cfg = s.cfg := rfl
@[simp] theorem raise_inKept (f : FaultCode) (info : Nat) (s : State) : (raise f info s).inKept = s.inKept := rfl

/-! ### raiseUnchanged -/

@[simp] theorem raiseUnchanged_params (info : Nat) (s : State) : (raiseUnchanged info s).params = s.params := rfl
@[simp] theorem raiseUnchanged_grain (info : Nat) (s : State) : (raiseUnchanged info s).grain = s.grain := rfl
@[simp] theorem raiseUnchanged_port (info : Nat) (s : State) : (raiseUnchanged info s).port = s.port := rfl
@[simp] theorem raiseUnchanged_result (info : Nat) (s : State) : (raiseUnchanged info s).result = .failed .eApi info := rfl
@[simp] theorem raiseUnchanged_freeCtr (info : Nat) (s : State) : (raiseUnchanged info s).freeCtr = s.freeCtr := rfl
@[simp] theorem raiseUnchanged_seq (info : Nat) (s : State) : (raiseUnchanged info s).seq = .idle := rfl
@[simp] theorem raiseUnchanged_status (info : Nat) (s : State) : (raiseUnchanged info s).status = { fault := some .eApi, faultInfo := info, done := false, needInput := false } := rfl
@[simp] theorem raiseUnchanged_cfg (info : Nat) (s : State) : (raiseUnchanged info s).cfg = s.cfg := rfl
@[simp] theorem raiseUnchanged_inMem (info : Nat) (s : State) : (raiseUnchanged info s).inMem = s.inMem := rfl
@[simp] theorem raiseUnchanged_inKept (info : Nat) (s : State) : (raiseUnchanged info s).inKept = s.inKept := rfl
@[simp] theorem raiseUnchanged_bw (info : Nat) (s : State) : (raiseUnchanged info s).bw = s.bw := rfl
@[simp] theorem raiseUnchanged_br (info : Nat) (s : State) : (raiseUnchanged info s).br = s.br := rfl
@[simp] theorem raiseUnchanged_htb (info : Nat) (s : State) : (raiseUnchanged info s).htb = s.htb := rfl
@[simp] theorem raiseUnchanged_built (info : Nat) (s : State) : (raiseUnchanged info s).built = s.built := rfl
@[simp] theorem raiseUnchanged_lzm (info : Nat) (s : State) : (raiseUnchanged info s).lzm = s.lzm := rfl
@[simp] theorem raiseUnchanged_chain (info : Nat) (s : State) : (raiseUnchanged info s).chain = s.chain := rfl
@[simp] theorem raiseUnchanged_tok (info : Nat) (s : State) : (raiseUnchanged info s).tok = s.tok := rfl
@[simp] theorem raiseUnchanged_freqLL (info : Nat) (s : State) : (raiseUnchanged info s).freqLL = s.freqLL := rfl
@[simp] theorem raiseUnchanged_freqD (info : Nat) (s : State) : (raiseUnchanged info s).freqD = s.freqD := rfl
@[simp] theorem raiseUnchanged_freqCL (info : Nat) (s : State) : (raiseUnchanged info s).freqCL = s.freqCL := rfl
@[simp] theorem raiseUnchanged_lenLL (info : Nat) (s : State) : (raiseUnchanged info s).lenLL = s.lenLL := rfl
@[simp] theorem raiseUnchanged_lenD (info : Nat) (s : State) : (raiseUnchanged info s).lenD = s.lenD := rfl
@[simp] theorem raiseUnchanged_lenCL (info : Nat) (s : State) : (raiseUnchanged info s).lenCL = s.lenCL := rfl
@[simp] theorem raiseUnchanged_codeLL (info : Nat) (s : State) : (raiseUnchanged info s).codeLL = s.codeLL := rfl
@[simp] theorem raiseUnchanged_codeD (info : Nat) (s : State) : (raiseUnchanged info s).codeD = s.codeD := rfl
@[simp] theorem raiseUnchanged_codeCL (info : Nat) (s : State) : (raiseUnchanged info s).codeCL = s.codeCL := rfl
@[simp] theorem raiseUnchanged_rle (info : Nat) (s : State) : (raiseUnchanged info s).rle = s.rle := rfl
@[simp] theorem raiseUnchanged_enc (info : Nat) (s : State) : (raiseUnchanged info s).enc = s.enc := rfl
@[simp] theorem raiseUnchanged_dec (info : Nat) (s : State) : (raiseUnchanged info s).dec = s.dec := rfl
@[simp] theorem raiseUnchanged_sdec (info : Nat) (s : State) : (raiseUnchanged info s).sdec = s.sdec := rfl

/-! ### refuse -/

@[simp] theorem refuse_params (f : FaultCode) (s : State) : (refuse f s).params = s.params := rfl
@[simp] theorem refuse_grain (f : FaultCode) (s : State) : (refuse f s).grain = s.grain := rfl
@[simp] theorem refuse_port (f : FaultCode) (s : State) : (refuse f s).port = s.port := rfl
@[simp] theorem refuse_result (f : FaultCode) (s : State) : (refuse f s).result = .refused f s.status.faultInfo := rfl
@[simp] theorem refuse_freeCtr (f : FaultCode) (s : State) : (refuse f s).freeCtr = s.freeCtr := rfl
@[simp] theorem refuse_seq (f : FaultCode) (s : State) : (refuse f s).seq = s.seq := rfl
@[simp] theorem refuse_status (f : FaultCode) (s : State) : (refuse f s).status = s.status := rfl
@[simp] theorem refuse_cfg (f : FaultCode) (s : State) : (refuse f s).cfg = s.cfg := rfl
@[simp] theorem refuse_inMem (f : FaultCode) (s : State) : (refuse f s).inMem = s.inMem := rfl
@[simp] theorem refuse_inKept (f : FaultCode) (s : State) : (refuse f s).inKept = s.inKept := rfl
@[simp] theorem refuse_bw (f : FaultCode) (s : State) : (refuse f s).bw = s.bw := rfl
@[simp] theorem refuse_br (f : FaultCode) (s : State) : (refuse f s).br = s.br := rfl
@[simp] theorem refuse_htb (f : FaultCode) (s : State) : (refuse f s).htb = s.htb := rfl
@[simp] theorem refuse_built (f : FaultCode) (s : State) : (refuse f s).built = s.built := rfl
@[simp] theorem refuse_lzm (f : FaultCode) (s : State) : (refuse f s).lzm = s.lzm := rfl
@[simp] theorem refuse_chain (f : FaultCode) (s : State) : (refuse f s).chain = s.chain := rfl
@[simp] theorem refuse_tok (f : FaultCode) (s : State) : (refuse f s).tok = s.tok := rfl
@[simp] theorem refuse_freqLL (f : FaultCode) (s : State) : (refuse f s).freqLL = s.freqLL := rfl
@[simp] theorem refuse_freqD (f : FaultCode) (s : State) : (refuse f s).freqD = s.freqD := rfl
@[simp] theorem refuse_freqCL (f : FaultCode) (s : State) : (refuse f s).freqCL = s.freqCL := rfl
@[simp] theorem refuse_lenLL (f : FaultCode) (s : State) : (refuse f s).lenLL = s.lenLL := rfl
@[simp] theorem refuse_lenD (f : FaultCode) (s : State) : (refuse f s).lenD = s.lenD := rfl
@[simp] theorem refuse_lenCL (f : FaultCode) (s : State) : (refuse f s).lenCL = s.lenCL := rfl
@[simp] theorem refuse_codeLL (f : FaultCode) (s : State) : (refuse f s).codeLL = s.codeLL := rfl
@[simp] theorem refuse_codeD (f : FaultCode) (s : State) : (refuse f s).codeD = s.codeD := rfl
@[simp] theorem refuse_codeCL (f : FaultCode) (s : State) : (refuse f s).codeCL = s.codeCL := rfl
@[simp] theorem refuse_rle (f : FaultCode) (s : State) : (refuse f s).rle = s.rle := rfl
@[simp] theorem refuse_enc (f : FaultCode) (s : State) : (refuse f s).enc = s.enc := rfl
@[simp] theorem refuse_dec (f : FaultCode) (s : State) : (refuse f s).dec = s.dec := rfl
@[simp] theorem refuse_sdec (f : FaultCode) (s : State) : (refuse f s).sdec = s.sdec := rfl

/-! ### answer -/

@[simp] theorem answer_params (r : Result) (s : State) : (answer r s).params = s.params := rfl
@[simp] theorem answer_grain (r : Result) (s : State) : (answer r s).grain = s.grain := rfl
@[simp] theorem answer_port (r : Result) (s : State) : (answer r s).port = s.port := rfl
@[simp] theorem answer_result (r : Result) (s : State) : (answer r s).result = r := rfl
@[simp] theorem answer_freeCtr (r : Result) (s : State) : (answer r s).freeCtr = s.freeCtr := rfl
@[simp] theorem answer_seq (r : Result) (s : State) : (answer r s).seq = .idle := rfl
@[simp] theorem answer_status (r : Result) (s : State) : (answer r s).status = s.status := rfl
@[simp] theorem answer_cfg (r : Result) (s : State) : (answer r s).cfg = s.cfg := rfl
@[simp] theorem answer_inMem (r : Result) (s : State) : (answer r s).inMem = s.inMem := rfl
@[simp] theorem answer_inKept (r : Result) (s : State) : (answer r s).inKept = s.inKept := rfl
@[simp] theorem answer_bw (r : Result) (s : State) : (answer r s).bw = s.bw := rfl
@[simp] theorem answer_br (r : Result) (s : State) : (answer r s).br = s.br := rfl
@[simp] theorem answer_htb (r : Result) (s : State) : (answer r s).htb = s.htb := rfl
@[simp] theorem answer_built (r : Result) (s : State) : (answer r s).built = s.built := rfl
@[simp] theorem answer_lzm (r : Result) (s : State) : (answer r s).lzm = s.lzm := rfl
@[simp] theorem answer_chain (r : Result) (s : State) : (answer r s).chain = s.chain := rfl
@[simp] theorem answer_tok (r : Result) (s : State) : (answer r s).tok = s.tok := rfl
@[simp] theorem answer_freqLL (r : Result) (s : State) : (answer r s).freqLL = s.freqLL := rfl
@[simp] theorem answer_freqD (r : Result) (s : State) : (answer r s).freqD = s.freqD := rfl
@[simp] theorem answer_freqCL (r : Result) (s : State) : (answer r s).freqCL = s.freqCL := rfl
@[simp] theorem answer_lenLL (r : Result) (s : State) : (answer r s).lenLL = s.lenLL := rfl
@[simp] theorem answer_lenD (r : Result) (s : State) : (answer r s).lenD = s.lenD := rfl
@[simp] theorem answer_lenCL (r : Result) (s : State) : (answer r s).lenCL = s.lenCL := rfl
@[simp] theorem answer_codeLL (r : Result) (s : State) : (answer r s).codeLL = s.codeLL := rfl
@[simp] theorem answer_codeD (r : Result) (s : State) : (answer r s).codeD = s.codeD := rfl
@[simp] theorem answer_codeCL (r : Result) (s : State) : (answer r s).codeCL = s.codeCL := rfl
@[simp] theorem answer_rle (r : Result) (s : State) : (answer r s).rle = s.rle := rfl
@[simp] theorem answer_enc (r : Result) (s : State) : (answer r s).enc = s.enc := rfl
@[simp] theorem answer_dec (r : Result) (s : State) : (answer r s).dec = s.dec := rfl
@[simp] theorem answer_sdec (r : Result) (s : State) : (answer r s).sdec = s.sdec := rfl

/-! ### answerDone -/

@[simp] theorem answerDone_params (bs : List Byte) (s : State) : (answerDone bs s).params = s.params := rfl
@[simp] theorem answerDone_grain (bs : List Byte) (s : State) : (answerDone bs s).grain = s.grain := rfl
@[simp] theorem answerDone_port (bs : List Byte) (s : State) : (answerDone bs s).port = s.port := rfl
@[simp] theorem answerDone_result (bs : List Byte) (s : State) : (answerDone bs s).result = .bytes bs := rfl
@[simp] theorem answerDone_freeCtr (bs : List Byte) (s : State) : (answerDone bs s).freeCtr = s.freeCtr := rfl
@[simp] theorem answerDone_seq (bs : List Byte) (s : State) : (answerDone bs s).seq = .idle := rfl
@[simp] theorem answerDone_status (bs : List Byte) (s : State) : (answerDone bs s).status = { s.status with done := true } := rfl
@[simp] theorem answerDone_cfg (bs : List Byte) (s : State) : (answerDone bs s).cfg = s.cfg := rfl
@[simp] theorem answerDone_inMem (bs : List Byte) (s : State) : (answerDone bs s).inMem = s.inMem := rfl
@[simp] theorem answerDone_inKept (bs : List Byte) (s : State) : (answerDone bs s).inKept = s.inKept := rfl
@[simp] theorem answerDone_bw (bs : List Byte) (s : State) : (answerDone bs s).bw = s.bw := rfl
@[simp] theorem answerDone_br (bs : List Byte) (s : State) : (answerDone bs s).br = s.br := rfl
@[simp] theorem answerDone_htb (bs : List Byte) (s : State) : (answerDone bs s).htb = s.htb := rfl
@[simp] theorem answerDone_built (bs : List Byte) (s : State) : (answerDone bs s).built = s.built := rfl
@[simp] theorem answerDone_lzm (bs : List Byte) (s : State) : (answerDone bs s).lzm = s.lzm := rfl
@[simp] theorem answerDone_chain (bs : List Byte) (s : State) : (answerDone bs s).chain = s.chain := rfl
@[simp] theorem answerDone_tok (bs : List Byte) (s : State) : (answerDone bs s).tok = s.tok := rfl
@[simp] theorem answerDone_freqLL (bs : List Byte) (s : State) : (answerDone bs s).freqLL = s.freqLL := rfl
@[simp] theorem answerDone_freqD (bs : List Byte) (s : State) : (answerDone bs s).freqD = s.freqD := rfl
@[simp] theorem answerDone_freqCL (bs : List Byte) (s : State) : (answerDone bs s).freqCL = s.freqCL := rfl
@[simp] theorem answerDone_lenLL (bs : List Byte) (s : State) : (answerDone bs s).lenLL = s.lenLL := rfl
@[simp] theorem answerDone_lenD (bs : List Byte) (s : State) : (answerDone bs s).lenD = s.lenD := rfl
@[simp] theorem answerDone_lenCL (bs : List Byte) (s : State) : (answerDone bs s).lenCL = s.lenCL := rfl
@[simp] theorem answerDone_codeLL (bs : List Byte) (s : State) : (answerDone bs s).codeLL = s.codeLL := rfl
@[simp] theorem answerDone_codeD (bs : List Byte) (s : State) : (answerDone bs s).codeD = s.codeD := rfl
@[simp] theorem answerDone_codeCL (bs : List Byte) (s : State) : (answerDone bs s).codeCL = s.codeCL := rfl
@[simp] theorem answerDone_rle (bs : List Byte) (s : State) : (answerDone bs s).rle = s.rle := rfl
@[simp] theorem answerDone_enc (bs : List Byte) (s : State) : (answerDone bs s).enc = s.enc := rfl
@[simp] theorem answerDone_dec (bs : List Byte) (s : State) : (answerDone bs s).dec = s.dec := rfl
@[simp] theorem answerDone_sdec (bs : List Byte) (s : State) : (answerDone bs s).sdec = s.sdec := rfl

/-! ### beginCommand -/

@[simp] theorem beginCommand_params (c : Bool) (s : State) : (beginCommand c s).params = s.params := rfl
@[simp] theorem beginCommand_grain (c : Bool) (s : State) : (beginCommand c s).grain = s.grain := rfl
@[simp] theorem beginCommand_port (c : Bool) (s : State) : (beginCommand c s).port = s.port := rfl
@[simp] theorem beginCommand_result (c : Bool) (s : State) : (beginCommand c s).result = .none := rfl
@[simp] theorem beginCommand_freeCtr (c : Bool) (s : State) : (beginCommand c s).freeCtr = s.freeCtr := rfl
@[simp] theorem beginCommand_seq (c : Bool) (s : State) : (beginCommand c s).seq = s.seq := rfl
@[simp] theorem beginCommand_status (c : Bool) (s : State) : (beginCommand c s).status = { s.status with needInput := false, done := if c then false else s.status.done } := rfl
@[simp] theorem beginCommand_cfg (c : Bool) (s : State) : (beginCommand c s).cfg = s.cfg := rfl
@[simp] theorem beginCommand_inMem (c : Bool) (s : State) : (beginCommand c s).inMem = s.inMem := rfl
@[simp] theorem beginCommand_inKept (c : Bool) (s : State) : (beginCommand c s).inKept = s.inKept := rfl
@[simp] theorem beginCommand_bw (c : Bool) (s : State) : (beginCommand c s).bw = s.bw := rfl
@[simp] theorem beginCommand_br (c : Bool) (s : State) : (beginCommand c s).br = s.br := rfl
@[simp] theorem beginCommand_htb (c : Bool) (s : State) : (beginCommand c s).htb = s.htb := rfl
@[simp] theorem beginCommand_built (c : Bool) (s : State) : (beginCommand c s).built = s.built := rfl
@[simp] theorem beginCommand_lzm (c : Bool) (s : State) : (beginCommand c s).lzm = s.lzm := rfl
@[simp] theorem beginCommand_chain (c : Bool) (s : State) : (beginCommand c s).chain = s.chain := rfl
@[simp] theorem beginCommand_tok (c : Bool) (s : State) : (beginCommand c s).tok = s.tok := rfl
@[simp] theorem beginCommand_freqLL (c : Bool) (s : State) : (beginCommand c s).freqLL = s.freqLL := rfl
@[simp] theorem beginCommand_freqD (c : Bool) (s : State) : (beginCommand c s).freqD = s.freqD := rfl
@[simp] theorem beginCommand_freqCL (c : Bool) (s : State) : (beginCommand c s).freqCL = s.freqCL := rfl
@[simp] theorem beginCommand_lenLL (c : Bool) (s : State) : (beginCommand c s).lenLL = s.lenLL := rfl
@[simp] theorem beginCommand_lenD (c : Bool) (s : State) : (beginCommand c s).lenD = s.lenD := rfl
@[simp] theorem beginCommand_lenCL (c : Bool) (s : State) : (beginCommand c s).lenCL = s.lenCL := rfl
@[simp] theorem beginCommand_codeLL (c : Bool) (s : State) : (beginCommand c s).codeLL = s.codeLL := rfl
@[simp] theorem beginCommand_codeD (c : Bool) (s : State) : (beginCommand c s).codeD = s.codeD := rfl
@[simp] theorem beginCommand_codeCL (c : Bool) (s : State) : (beginCommand c s).codeCL = s.codeCL := rfl
@[simp] theorem beginCommand_rle (c : Bool) (s : State) : (beginCommand c s).rle = s.rle := rfl
@[simp] theorem beginCommand_enc (c : Bool) (s : State) : (beginCommand c s).enc = s.enc := rfl
@[simp] theorem beginCommand_dec (c : Bool) (s : State) : (beginCommand c s).dec = s.dec := rfl
@[simp] theorem beginCommand_sdec (c : Bool) (s : State) : (beginCommand c s).sdec = s.sdec := rfl

/-! ### deliver -/

@[simp] theorem deliver_params (s : State) : (deliver s).params = s.params := rfl
@[simp] theorem deliver_grain (s : State) : (deliver s).grain = s.grain := rfl
@[simp] theorem deliver_port (s : State) : (deliver s).port = s.port := rfl
@[simp] theorem deliver_result (s : State) : (deliver s).result = .bytes (s.dec.out.drop s.sdec.sp) := rfl
@[simp] theorem deliver_freeCtr (s : State) : (deliver s).freeCtr = s.freeCtr := rfl
@[simp] theorem deliver_seq (s : State) : (deliver s).seq = .idle := rfl
@[simp] theorem deliver_status (s : State) : (deliver s).status = s.status := rfl
@[simp] theorem deliver_cfg (s : State) : (deliver s).cfg = s.cfg := rfl
@[simp] theorem deliver_inMem (s : State) : (deliver s).inMem = s.inMem := rfl
@[simp] theorem deliver_inKept (s : State) : (deliver s).inKept = s.inKept := rfl
@[simp] theorem deliver_bw (s : State) : (deliver s).bw = s.bw := rfl
@[simp] theorem deliver_br (s : State) : (deliver s).br = s.br := rfl
@[simp] theorem deliver_htb (s : State) : (deliver s).htb = s.htb := rfl
@[simp] theorem deliver_built (s : State) : (deliver s).built = s.built := rfl
@[simp] theorem deliver_lzm (s : State) : (deliver s).lzm = s.lzm := rfl
@[simp] theorem deliver_chain (s : State) : (deliver s).chain = s.chain := rfl
@[simp] theorem deliver_tok (s : State) : (deliver s).tok = s.tok := rfl
@[simp] theorem deliver_freqLL (s : State) : (deliver s).freqLL = s.freqLL := rfl
@[simp] theorem deliver_freqD (s : State) : (deliver s).freqD = s.freqD := rfl
@[simp] theorem deliver_freqCL (s : State) : (deliver s).freqCL = s.freqCL := rfl
@[simp] theorem deliver_lenLL (s : State) : (deliver s).lenLL = s.lenLL := rfl
@[simp] theorem deliver_lenD (s : State) : (deliver s).lenD = s.lenD := rfl
@[simp] theorem deliver_lenCL (s : State) : (deliver s).lenCL = s.lenCL := rfl
@[simp] theorem deliver_codeLL (s : State) : (deliver s).codeLL = s.codeLL := rfl
@[simp] theorem deliver_codeD (s : State) : (deliver s).codeD = s.codeD := rfl
@[simp] theorem deliver_codeCL (s : State) : (deliver s).codeCL = s.codeCL := rfl
@[simp] theorem deliver_rle (s : State) : (deliver s).rle = s.rle := rfl
@[simp] theorem deliver_enc (s : State) : (deliver s).enc = s.enc := rfl
@[simp] theorem deliver_dec (s : State) : (deliver s).dec = s.dec := rfl
@[simp] theorem deliver_sdec (s : State) : (deliver s).sdec = { s.sdec with sp := s.dec.op } := rfl

/-! ### advance -/

@[simp] theorem advance_params (n : Nat) (s : State) : (advance n s).params = s.params := rfl
@[simp] theorem advance_grain (n : Nat) (s : State) : (advance n s).grain = s.grain := rfl
@[simp] theorem advance_port (n : Nat) (s : State) : (advance n s).port = s.port := rfl
@[simp] theorem advance_result (n : Nat) (s : State) : (advance n s).result = s.result := rfl
@[simp] theorem advance_freeCtr (n : Nat) (s : State) : (advance n s).freeCtr = s.freeCtr := rfl
@[simp] theorem advance_seq (n : Nat) (s : State) : (advance n s).seq = s.seq := rfl
@[simp] theorem advance_status (n : Nat) (s : State) : (advance n s).status = s.status := rfl
@[simp] theorem advance_cfg (n : Nat) (s : State) : (advance n s).cfg = s.cfg := rfl
@[simp] theorem advance_inMem (n : Nat) (s : State) : (advance n s).inMem = s.inMem := rfl
@[simp] theorem advance_inKept (n : Nat) (s : State) : (advance n s).inKept = s.inKept := rfl
@[simp] theorem advance_bw (n : Nat) (s : State) : (advance n s).bw = s.bw := rfl
@[simp] theorem advance_br (n : Nat) (s : State) : (advance n s).br = s.br := rfl
@[simp] theorem advance_htb (n : Nat) (s : State) : (advance n s).htb = s.htb := rfl
@[simp] theorem advance_built (n : Nat) (s : State) : (advance n s).built = s.built := rfl
@[simp] theorem advance_lzm (n : Nat) (s : State) : (advance n s).lzm = s.lzm := rfl
@[simp] theorem advance_chain (n : Nat) (s : State) : (advance n s).chain = s.chain := rfl
@[simp] theorem advance_tok (n : Nat) (s : State) : (advance n s).tok = s.tok := rfl
@[simp] theorem advance_freqLL (n : Nat) (s : State) : (advance n s).freqLL = s.freqLL := rfl
@[simp] theorem advance_freqD (n : Nat) (s : State) : (advance n s).freqD = s.freqD := rfl
@[simp] theorem advance_freqCL (n : Nat) (s : State) : (advance n s).freqCL = s.freqCL := rfl
@[simp] theorem advance_lenLL (n : Nat) (s : State) : (advance n s).lenLL = s.lenLL := rfl
@[simp] theorem advance_lenD (n : Nat) (s : State) : (advance n s).lenD = s.lenD := rfl
@[simp] theorem advance_lenCL (n : Nat) (s : State) : (advance n s).lenCL = s.lenCL := rfl
@[simp] theorem advance_codeLL (n : Nat) (s : State) : (advance n s).codeLL = s.codeLL := rfl
@[simp] theorem advance_codeD (n : Nat) (s : State) : (advance n s).codeD = s.codeD := rfl
@[simp] theorem advance_codeCL (n : Nat) (s : State) : (advance n s).codeCL = s.codeCL := rfl
@[simp] theorem advance_rle (n : Nat) (s : State) : (advance n s).rle = s.rle := rfl
@[simp] theorem advance_enc (n : Nat) (s : State) : (advance n s).enc = { s.enc with tokIndex := s.enc.tokIndex + n } := rfl
@[simp] theorem advance_dec (n : Nat) (s : State) : (advance n s).dec = s.dec := rfl
@[simp] theorem advance_sdec (n : Nat) (s : State) : (advance n s).sdec = s.sdec := rfl

/-! ### useFixedTables -/

@[simp] theorem useFixedTables_params (s : State) : (useFixedTables s).params = s.params := rfl
@[simp] theorem useFixedTables_grain (s : State) : (useFixedTables s).grain = s.grain := rfl
@[simp] theorem useFixedTables_port (s : State) : (useFixedTables s).port = s.port := rfl
@[simp] theorem useFixedTables_result (s : State) : (useFixedTables s).result = s.result := rfl
@[simp] theorem useFixedTables_freeCtr (s : State) : (useFixedTables s).freeCtr = s.freeCtr := rfl
@[simp] theorem useFixedTables_seq (s : State) : (useFixedTables s).seq = s.seq := rfl
@[simp] theorem useFixedTables_status (s : State) : (useFixedTables s).status = s.status := rfl
@[simp] theorem useFixedTables_cfg (s : State) : (useFixedTables s).cfg = s.cfg := rfl
@[simp] theorem useFixedTables_inMem (s : State) : (useFixedTables s).inMem = s.inMem := rfl
@[simp] theorem useFixedTables_inKept (s : State) : (useFixedTables s).inKept = s.inKept := rfl
@[simp] theorem useFixedTables_bw (s : State) : (useFixedTables s).bw = s.bw := rfl
@[simp] theorem useFixedTables_br (s : State) : (useFixedTables s).br = s.br := rfl
@[simp] theorem useFixedTables_htb (s : State) : (useFixedTables s).htb = s.htb := rfl
@[simp] theorem useFixedTables_built (s : State) : (useFixedTables s).built = s.built := rfl
@[simp] theorem useFixedTables_lzm (s : State) : (useFixedTables s).lzm = s.lzm := rfl
@[simp] theorem useFixedTables_chain (s : State) : (useFixedTables s).chain = s.chain := rfl
@[simp] theorem useFixedTables_tok (s : State) : (useFixedTables s).tok = s.tok := rfl
@[simp] theorem useFixedTables_freqLL (s : State) : (useFixedTables s).freqLL = s.freqLL := rfl
@[simp] theorem useFixedTables_freqD (s : State) : (useFixedTables s).freqD = s.freqD := rfl
@[simp] theorem useFixedTables_freqCL (s : State) : (useFixedTables s).freqCL = s.freqCL := rfl
@[simp] theorem useFixedTables_lenLL (s : State) : (useFixedTables s).lenLL = s.lenLL := rfl
@[simp] theorem useFixedTables_lenD (s : State) : (useFixedTables s).lenD = s.lenD := rfl
@[simp] theorem useFixedTables_lenCL (s : State) : (useFixedTables s).lenCL = s.lenCL := rfl
@[simp] theorem useFixedTables_codeLL (s : State) : (useFixedTables s).codeLL = s.codeLL := rfl
@[simp] theorem useFixedTables_codeD (s : State) : (useFixedTables s).codeD = s.codeD := rfl
@[simp] theorem useFixedTables_codeCL (s : State) : (useFixedTables s).codeCL = s.codeCL := rfl
@[simp] theorem useFixedTables_rle (s : State) : (useFixedTables s).rle = s.rle := rfl
@[simp] theorem useFixedTables_enc (s : State) : (useFixedTables s).enc = s.enc := rfl
@[simp] theorem useFixedTables_dec (s : State) : (useFixedTables s).dec = { s.dec with ll := fixedLitLenTable, d := fixedDistTable } := rfl
@[simp] theorem useFixedTables_sdec (s : State) : (useFixedTables s).sdec = s.sdec := rfl

/-! ### bwInit -/

@[simp] theorem bwInit_params (s : State) : (bwInit s).params = s.params := rfl
@[simp] theorem bwInit_grain (s : State) : (bwInit s).grain = s.grain := rfl
@[simp] theorem bwInit_port (s : State) : (bwInit s).port = s.port := rfl
@[simp] theorem bwInit_result (s : State) : (bwInit s).result = s.result := rfl
@[simp] theorem bwInit_freeCtr (s : State) : (bwInit s).freeCtr = s.freeCtr := rfl
@[simp] theorem bwInit_seq (s : State) : (bwInit s).seq = s.seq := rfl
@[simp] theorem bwInit_status (s : State) : (bwInit s).status = s.status := rfl
@[simp] theorem bwInit_cfg (s : State) : (bwInit s).cfg = s.cfg := rfl
@[simp] theorem bwInit_inMem (s : State) : (bwInit s).inMem = s.inMem := rfl
@[simp] theorem bwInit_inKept (s : State) : (bwInit s).inKept = s.inKept := rfl
@[simp] theorem bwInit_br (s : State) : (bwInit s).br = s.br := rfl
@[simp] theorem bwInit_htb (s : State) : (bwInit s).htb = s.htb := rfl
@[simp] theorem bwInit_built (s : State) : (bwInit s).built = s.built := rfl
@[simp] theorem bwInit_lzm (s : State) : (bwInit s).lzm = s.lzm := rfl
@[simp] theorem bwInit_chain (s : State) : (bwInit s).chain = s.chain := rfl
@[simp] theorem bwInit_tok (s : State) : (bwInit s).tok = s.tok := rfl
@[simp] theorem bwInit_freqLL (s : State) : (bwInit s).freqLL = s.freqLL := rfl
@[simp] theorem bwInit_freqD (s : State) : (bwInit s).freqD = s.freqD := rfl
@[simp] theorem bwInit_freqCL (s : State) : (bwInit s).freqCL = s.freqCL := rfl
@[simp] theorem bwInit_lenLL (s : State) : (bwInit s).lenLL = s.lenLL := rfl
@[simp] theorem bwInit_lenD (s : State) : (bwInit s).lenD = s.lenD := rfl
@[simp] theorem bwInit_lenCL (s : State) : (bwInit s).lenCL = s.lenCL := rfl
@[simp] theorem bwInit_codeLL (s : State) : (bwInit s).codeLL = s.codeLL := rfl
@[simp] theorem bwInit_codeD (s : State) : (bwInit s).codeD = s.codeD := rfl
@[simp] theorem bwInit_codeCL (s : State) : (bwInit s).codeCL = s.codeCL := rfl
@[simp] theorem bwInit_rle (s : State) : (bwInit s).rle = s.rle := rfl
@[simp] theorem bwInit_enc (s : State) : (bwInit s).enc = s.enc := rfl
@[simp] theorem bwInit_dec (s : State) : (bwInit s).dec = s.dec := rfl
@[simp] theorem bwInit_sdec (s : State) : (bwInit s).sdec = s.sdec := rfl

/-! ### goto -/

@[simp] theorem goto_params (ph : Phase) (s : State) : (s.goto ph).params = s.params := by
  unfold State.goto; split <;> rfl
@[simp] theorem goto_grain (ph : Phase) (s : State) : (s.goto ph).grain = s.grain := by
  unfold State.goto; split <;> rfl
@[simp] theorem goto_port (ph : Phase) (s : State) : (s.goto ph).port = s.port := by
  unfold State.goto; split <;> rfl
@[simp] theorem goto_result (ph : Phase) (s : State) : (s.goto ph).result = s.result := by
  unfold State.goto; split <;> rfl
@[simp] theorem goto_freeCtr (ph : Phase) (s : State) : (s.goto ph).freeCtr = s.freeCtr := by
  unfold State.goto; split <;> rfl
@[simp] theorem goto_status (ph : Phase) (s : State) : (s.goto ph).status = s.status := by
  unfold State.goto; split <;> rfl
@[simp] theorem goto_cfg (ph : Phase) (s : State) : (s.goto ph).cfg = s.cfg := by
  unfold State.goto; split <;> rfl
@[simp] theorem goto_inMem (ph : Phase) (s : State) : (s.goto ph).inMem = s.inMem := by
  unfold State.goto; split <;> rfl
@[simp] theorem goto_inKept (ph : Phase) (s : State) : (s.goto ph).inKept = s.inKept := by
  unfold State.goto; split <;> rfl
@[simp] theorem goto_bw (ph : Phase) (s : State) : (s.goto ph).bw = s.bw := by
  unfold State.goto; split <;> rfl
@[simp] theorem goto_br (ph : Phase) (s : State) : (s.goto ph).br = s.br := by
  unfold State.goto; split <;> rfl
@[simp] theorem goto_htb (ph : Phase) (s : State) : (s.goto ph).htb = s.htb := by
  unfold State.goto; split <;> rfl
@[simp] theorem goto_built (ph : Phase) (s : State) : (s.goto ph).built = s.built := by
  unfold State.goto; split <;> rfl
@[simp] theorem goto_lzm (ph : Phase) (s : State) : (s.goto ph).lzm = s.lzm := by
  unfold State.goto; split <;> rfl
@[simp] theorem goto_chain (ph : Phase) (s : State) : (s.goto ph).chain = s.chain := by
  unfold State.goto; split <;> rfl
@[simp] theorem goto_tok (ph : Phase) (s : State) : (s.goto ph).tok = s.tok := by
  unfold State.goto; split <;> rfl
@[simp] theorem goto_freqLL (ph : Phase) (s : State) : (s.goto ph).freqLL = s.freqLL := by
  unfold State.goto; split <;> rfl
@[simp] theorem goto_freqD (ph : Phase) (s : State) : (s.goto ph).freqD = s.freqD := by
  unfold State.goto; split <;> rfl
@[simp] theorem goto_freqCL (ph : Phase) (s : State) : (s.goto ph).freqCL = s.freqCL := by
  unfold State.goto; split <;> rfl
@[simp] theorem goto_lenLL (ph : Phase) (s : State) : (s.goto ph).lenLL = s.lenLL := by
  unfold State.goto; split <;> rfl
@[simp] theorem goto_lenD (ph : Phase) (s : State) : (s.goto ph).lenD = s.lenD := by
  unfold State.goto; split <;> rfl
@[simp] theorem goto_lenCL (ph : Phase) (s : State) : (s.goto ph).lenCL = s.lenCL := by
  unfold State.goto; split <;> rfl
@[simp] theorem goto_codeLL (ph : Phase) (s : State) : (s.goto ph).codeLL = s.codeLL := by
  unfold State.goto; split <;> rfl
@[simp] theorem goto_codeD (ph : Phase) (s : State) : (s.goto ph).codeD = s.codeD := by
  unfold State.goto; split <;> rfl
@[simp] theorem goto_codeCL (ph : Phase) (s : State) : (s.goto ph).codeCL = s.codeCL := by
  unfold State.goto; split <;> rfl
@[simp] theorem goto_rle (ph : Phase) (s : State) : (s.goto ph).rle = s.rle := by
  unfold State.goto; split <;> rfl
@[simp] theorem goto_enc (ph : Phase) (s : State) : (s.goto ph).enc = s.enc := by
  unfold State.goto; split <;> rfl
@[simp] theorem goto_dec (ph : Phase) (s : State) : (s.goto ph).dec = s.dec := by
  unfold State.goto; split <;> rfl
@[simp] theorem goto_sdec (ph : Phase) (s : State) : (s.goto ph).sdec = s.sdec := by
  unfold State.goto; split <;> rfl

/-! ### streamState -/

@[simp] theorem streamState_params (x : SdecState) (s : State) : (s.streamState x).params = s.params := by
  unfold State.streamState; split <;> rfl
@[simp] theorem streamState_grain (x : SdecState) (s : State) : (s.streamState x).grain = s.grain := by
  unfold State.streamState; split <;> rfl
@[simp] theorem streamState_port (x : SdecState) (s : State) : (s.streamState x).port = s.port := by
  unfold State.streamState; split <;> rfl
@[simp] theorem streamState_result (x : SdecState) (s : State) : (s.streamState x).result = s.result := by
  unfold State.streamState; split <;> rfl
@[simp] theorem streamState_freeCtr (x : SdecState) (s : State) : (s.streamState x).freeCtr = s.freeCtr := by
  unfold State.streamState; split <;> rfl
@[simp] theorem streamState_seq (x : SdecState) (s : State) : (s.streamState x).seq = s.seq := by
  unfold State.streamState; split <;> rfl
@[simp] theorem streamState_status (x : SdecState) (s : State) : (s.streamState x).status = s.status := by
  unfold State.streamState; split <;> rfl
@[simp] theorem streamState_cfg (x : SdecState) (s : State) : (s.streamState x).cfg = s.cfg := by
  unfold State.streamState; split <;> rfl
@[simp] theorem streamState_inMem (x : SdecState) (s : State) : (s.streamState x).inMem = s.inMem := by
  unfold State.streamState; split <;> rfl
@[simp] theorem streamState_inKept (x : SdecState) (s : State) : (s.streamState x).inKept = s.inKept := by
  unfold State.streamState; split <;> rfl
@[simp] theorem streamState_bw (x : SdecState) (s : State) : (s.streamState x).bw = s.bw := by
  unfold State.streamState; split <;> rfl
@[simp] theorem streamState_br (x : SdecState) (s : State) : (s.streamState x).br = s.br := by
  unfold State.streamState; split <;> rfl
@[simp] theorem streamState_htb (x : SdecState) (s : State) : (s.streamState x).htb = s.htb := by
  unfold State.streamState; split <;> rfl
@[simp] theorem streamState_built (x : SdecState) (s : State) : (s.streamState x).built = s.built := by
  unfold State.streamState; split <;> rfl
@[simp] theorem streamState_lzm (x : SdecState) (s : State) : (s.streamState x).lzm = s.lzm := by
  unfold State.streamState; split <;> rfl
@[simp] theorem streamState_chain (x : SdecState) (s : State) : (s.streamState x).chain = s.chain := by
  unfold State.streamState; split <;> rfl
@[simp] theorem streamState_tok (x : SdecState) (s : State) : (s.streamState x).tok = s.tok := by
  unfold State.streamState; split <;> rfl
@[simp] theorem streamState_freqLL (x : SdecState) (s : State) : (s.streamState x).freqLL = s.freqLL := by
  unfold State.streamState; split <;> rfl
@[simp] theorem streamState_freqD (x : SdecState) (s : State) : (s.streamState x).freqD = s.freqD := by
  unfold State.streamState; split <;> rfl
@[simp] theorem streamState_freqCL (x : SdecState) (s : State) : (s.streamState x).freqCL = s.freqCL := by
  unfold State.streamState; split <;> rfl
@[simp] theorem streamState_lenLL (x : SdecState) (s : State) : (s.streamState x).lenLL = s.lenLL := by
  unfold State.streamState; split <;> rfl
@[simp] theorem streamState_lenD (x : SdecState) (s : State) : (s.streamState x).lenD = s.lenD := by
  unfold State.streamState; split <;> rfl
@[simp] theorem streamState_lenCL (x : SdecState) (s : State) : (s.streamState x).lenCL = s.lenCL := by
  unfold State.streamState; split <;> rfl
@[simp] theorem streamState_codeLL (x : SdecState) (s : State) : (s.streamState x).codeLL = s.codeLL := by
  unfold State.streamState; split <;> rfl
@[simp] theorem streamState_codeD (x : SdecState) (s : State) : (s.streamState x).codeD = s.codeD := by
  unfold State.streamState; split <;> rfl
@[simp] theorem streamState_codeCL (x : SdecState) (s : State) : (s.streamState x).codeCL = s.codeCL := by
  unfold State.streamState; split <;> rfl
@[simp] theorem streamState_rle (x : SdecState) (s : State) : (s.streamState x).rle = s.rle := by
  unfold State.streamState; split <;> rfl
@[simp] theorem streamState_enc (x : SdecState) (s : State) : (s.streamState x).enc = s.enc := by
  unfold State.streamState; split <;> rfl
@[simp] theorem streamState_dec (x : SdecState) (s : State) : (s.streamState x).dec = s.dec := by
  unfold State.streamState; split <;> rfl

/-! ### tryStart -/

@[simp] theorem tryStart_params (s : State) : (tryStart s).params = s.params := by
  unfold tryStart; split <;> rfl
@[simp] theorem tryStart_grain (s : State) : (tryStart s).grain = s.grain := by
  unfold tryStart; split <;> rfl
@[simp] theorem tryStart_port (s : State) : (tryStart s).port = s.port := by
  unfold tryStart; split <;> rfl
@[simp] theorem tryStart_result (s : State) : (tryStart s).result = s.result := by
  unfold tryStart; split <;> rfl
@[simp] theorem tryStart_freeCtr (s : State) : (tryStart s).freeCtr = s.freeCtr := by
  unfold tryStart; split <;> rfl
@[simp] theorem tryStart_seq (s : State) : (tryStart s).seq = s.seq := by
  unfold tryStart; split <;> rfl
@[simp] theorem tryStart_status (s : State) : (tryStart s).status = s.status := by
  unfold tryStart; split <;> rfl
@[simp] theorem tryStart_cfg (s : State) : (tryStart s).cfg = s.cfg := by
  unfold tryStart; split <;> rfl
@[simp] theorem tryStart_inMem (s : State) : (tryStart s).inMem = s.inMem := by
  unfold tryStart; split <;> rfl
@[simp] theorem tryStart_inKept (s : State) : (tryStart s).inKept = s.inKept := by
  unfold tryStart; split <;> rfl
@[simp] theorem tryStart_bw (s : State) : (tryStart s).bw = s.bw := by
  unfold tryStart; split <;> rfl
@[simp] theorem tryStart_htb (s : State) : (tryStart s).htb = s.htb := by
  unfold tryStart; split <;> rfl
@[simp] theorem tryStart_built (s : State) : (tryStart s).built = s.built := by
  unfold tryStart; split <;> rfl
@[simp] theorem tryStart_lzm (s : State) : (tryStart s).lzm = s.lzm := by
  unfold tryStart; split <;> rfl
@[simp] theorem tryStart_chain (s : State) : (tryStart s).chain = s.chain := by
  unfold tryStart; split <;> rfl
@[simp] theorem tryStart_tok (s : State) : (tryStart s).tok = s.tok := by
  unfold tryStart; split <;> rfl
@[simp] theorem tryStart_freqLL (s : State) : (tryStart s).freqLL = s.freqLL := by
  unfold tryStart; split <;> rfl
@[simp] theorem tryStart_freqD (s : State) : (tryStart s).freqD = s.freqD := by
  unfold tryStart; split <;> rfl
@[simp] theorem tryStart_freqCL (s : State) : (tryStart s).freqCL = s.freqCL := by
  unfold tryStart; split <;> rfl
@[simp] theorem tryStart_lenLL (s : State) : (tryStart s).lenLL = s.lenLL := by
  unfold tryStart; split <;> rfl
@[simp] theorem tryStart_lenD (s : State) : (tryStart s).lenD = s.lenD := by
  unfold tryStart; split <;> rfl
@[simp] theorem tryStart_lenCL (s : State) : (tryStart s).lenCL = s.lenCL := by
  unfold tryStart; split <;> rfl
@[simp] theorem tryStart_codeLL (s : State) : (tryStart s).codeLL = s.codeLL := by
  unfold tryStart; split <;> rfl
@[simp] theorem tryStart_codeD (s : State) : (tryStart s).codeD = s.codeD := by
  unfold tryStart; split <;> rfl
@[simp] theorem tryStart_codeCL (s : State) : (tryStart s).codeCL = s.codeCL := by
  unfold tryStart; split <;> rfl
@[simp] theorem tryStart_rle (s : State) : (tryStart s).rle = s.rle := by
  unfold tryStart; split <;> rfl
@[simp] theorem tryStart_enc (s : State) : (tryStart s).enc = s.enc := by
  unfold tryStart; split <;> rfl
@[simp] theorem tryStart_dec (s : State) : (tryStart s).dec = s.dec := by
  unfold tryStart; split <;> rfl
@[simp] theorem tryStart_sdec (s : State) : (tryStart s).sdec = s.sdec := by
  unfold tryStart; split <;> rfl

/-! ### flushBlocks -/

@[simp] theorem flushBlocks_params (s : State) : (flushBlocks s).params = s.params := by
  unfold flushBlocks; split <;> (try dsimp only) <;> (try split) <;> rfl
@[simp] theorem flushBlocks_grain (s : State) : (flushBlocks s).grain = s.grain := by
  unfold flushBlocks; split <;> (try dsimp only) <;> (try split) <;> rfl
@[simp] theorem flushBlocks_port (s : State) : (flushBlocks s).port = s.port := by
  unfold flushBlocks; split <;> (try dsimp only) <;> (try split) <;> rfl
@[simp] theorem flushBlocks_result (s : State) : (flushBlocks s).result = s.result := by
  unfold flushBlocks; split <;> (try dsimp only) <;> (try split) <;> rfl
@[simp] theorem flushBlocks_freeCtr (s : State) : (flushBlocks s).freeCtr = s.freeCtr := by
  unfold flushBlocks; split <;> (try dsimp only) <;> (try split) <;> rfl
@[simp] theorem flushBlocks_seq (s : State) : (flushBlocks s).seq = s.seq := by
  unfold flushBlocks; split <;> (try dsimp only) <;> (try split) <;> rfl
@[simp] theorem flushBlocks_status (s : State) : (flushBlocks s).status = s.status := by
  unfold flushBlocks; split <;> (try dsimp only) <;> (try split) <;> rfl
@[simp] theorem flushBlocks_cfg (s : State) : (flushBlocks s).cfg = s.cfg := by
  unfold flushBlocks; split <;> (try dsimp only) <;> (try split) <;> rfl
@[simp] theorem flushBlocks_inMem (s : State) : (flushBlocks s).inMem = s.inMem := by
  unfold flushBlocks; split <;> (try dsimp only) <;> (try split) <;> rfl
@[simp] theorem flushBlocks_inKept (s : State) : (flushBlocks s).inKept = s.inKept := by
  unfold flushBlocks; split <;> (try dsimp only) <;> (try split) <;> rfl
@[simp] theorem flushBlocks_bw (s : State) : (flushBlocks s).bw = s.bw := by
  unfold flushBlocks; split <;> (try dsimp only) <;> (try split) <;> rfl
@[simp] theorem flushBlocks_br (s : State) : (flushBlocks s).br = s.br := by
  unfold flushBlocks; split <;> (try dsimp only) <;> (try split) <;> rfl
@[simp] theorem flushBlocks_htb (s : State) : (flushBlocks s).htb = s.htb := by
  unfold flushBlocks; split <;> (try dsimp only) <;> (try split) <;> rfl
@[simp] theorem flushBlocks_built (s : State) : (flushBlocks s).built = s.built := by
  unfold flushBlocks; split <;> (try dsimp only) <;> (try split) <;> rfl
@[simp] theorem flushBlocks_lzm (s : State) : (flushBlocks s).lzm = s.lzm := by
  unfold flushBlocks; split <;> (try dsimp only) <;> (try split) <;> rfl
@[simp] theorem flushBlocks_chain (s : State) : (flushBlocks s).chain = s.chain := by
  unfold flushBlocks; split <;> (try dsimp only) <;> (try split) <;> rfl
@[simp] theorem flushBlocks_tok (s : State) : (flushBlocks s).tok = s.tok := by
  unfold flushBlocks; split <;> (try dsimp only) <;> (try split) <;> rfl
@[simp] theorem flushBlocks_freqLL (s : State) : (flushBlocks s).freqLL = s.freqLL := by
  unfold flushBlocks; split <;> (try dsimp only) <;> (try split) <;> rfl
@[simp] theorem flushBlocks_freqD (s : State) : (flushBlocks s).freqD = s.freqD := by
  unfold flushBlocks; split <;> (try dsimp only) <;> (try split) <;> rfl
@[simp] theorem flushBlocks_freqCL (s : State) : (flushBlocks s).freqCL = s.freqCL := by
  unfold flushBlocks; split <;> (try dsimp only) <;> (try split) <;> rfl
@[simp] theorem flushBlocks_lenLL (s : State) : (flushBlocks s).lenLL = s.lenLL := by
  unfold flushBlocks; split <;> (try dsimp only) <;> (try split) <;> rfl
@[simp] theorem flushBlocks_lenD (s : State) : (flushBlocks s).lenD = s.lenD := by
  unfold flushBlocks; split <;> (try dsimp only) <;> (try split) <;> rfl
@[simp] theorem flushBlocks_lenCL (s : State) : (flushBlocks s).lenCL = s.lenCL := by
  unfold flushBlocks; split <;> (try dsimp only) <;> (try split) <;> rfl
@[simp] theorem flushBlocks_codeLL (s : State) : (flushBlocks s).codeLL = s.codeLL := by
  unfold flushBlocks; split <;> (try dsimp only) <;> (try split) <;> rfl
@[simp] theorem flushBlocks_codeD (s : State) : (flushBlocks s).codeD = s.codeD := by
  unfold flushBlocks; split <;> (try dsimp only) <;> (try split) <;> rfl
@[simp] theorem flushBlocks_codeCL (s : State) : (flushBlocks s).codeCL = s.codeCL := by
  unfold flushBlocks; split <;> (try dsimp only) <;> (try split) <;> rfl
@[simp] theorem flushBlocks_rle (s : State) : (flushBlocks s).rle = s.rle := by
  unfold flushBlocks; split <;> (try dsimp only) <;> (try split) <;> rfl
@[simp] theorem flushBlocks_enc (s : State) : (flushBlocks s).enc = s.enc := by
  unfold flushBlocks; split <;> (try dsimp only) <;> (try split) <;> rfl
@[simp] theorem flushBlocks_sdec (s : State) : (flushBlocks s).sdec = s.sdec := by
  unfold flushBlocks; split <;> (try dsimp only) <;> (try split) <;> rfl

/-! ### putLens -/

@[simp] theorem putLens_params (a : Alphabet) (l : List Nat) (s : State) : (s.putLens a l).params = s.params := by cases a <;> rfl
@[simp] theorem putLens_grain (a : Alphabet) (l : List Nat) (s : State) : (s.putLens a l).grain = s.grain := by cases a <;> rfl
@[simp] theorem putLens_port (a : Alphabet) (l : List Nat) (s : State) : (s.putLens a l).port = s.port := by cases a <;> rfl
@[simp] theorem putLens_result (a : Alphabet) (l : List Nat) (s : State) : (s.putLens a l).result = s.result := by cases a <;> rfl
@[simp] theorem putLens_freeCtr (a : Alphabet) (l : List Nat) (s : State) : (s.putLens a l).freeCtr = s.freeCtr := by cases a <;> rfl
@[simp] theorem putLens_seq (a : Alphabet) (l : List Nat) (s : State) : (s.putLens a l).seq = s.seq := by cases a <;> rfl
@[simp] theorem putLens_status (a : Alphabet) (l : List Nat) (s : State) : (s.putLens a l).status = s.status := by cases a <;> rfl
@[simp] theorem putLens_cfg (a : Alphabet) (l : List Nat) (s : State) : (s.putLens a l).cfg = s.cfg := by cases a <;> rfl
@[simp] theorem putLens_inMem (a : Alphabet) (l : List Nat) (s : State) : (s.putLens a l).inMem = s.inMem := by cases a <;> rfl
@[simp] theorem putLens_inKept (a : Alphabet) (l : List Nat) (s : State) : (s.putLens a l).inKept = s.inKept := by cases a <;> rfl
@[simp] theorem putLens_bw (a : Alphabet) (l : List Nat) (s : State) : (s.putLens a l).bw = s.bw := by cases a <;> rfl
@[simp] theorem putLens_br (a : Alphabet) (l : List Nat) (s : State) : (s.putLens a l).br = s.br := by cases a <;> rfl
@[simp] theorem putLens_htb (a : Alphabet) (l : List Nat) (s : State) : (s.putLens a l).htb = s.htb := by cases a <;> rfl
@[simp] theorem putLens_built (a : Alphabet) (l : List Nat) (s : State) : (s.putLens a l).built = s.built := by cases a <;> rfl
@[simp] theorem putLens_lzm (a : Alphabet) (l : List Nat) (s : State) : (s.putLens a l).lzm = s.lzm := by cases a <;> rfl
@[simp] theorem putLens_chain (a : Alphabet) (l : List Nat) (s : State) : (s.putLens a l).chain = s.chain := by cases a <;> rfl
@[simp] theorem putLens_tok (a : Alphabet) (l : List Nat) (s : State) : (s.putLens a l).tok = s.tok := by cases a <;> rfl
@[simp] theorem putLens_freqLL (a : Alphabet) (l : List Nat) (s : State) : (s.putLens a l).freqLL = s.freqLL := by cases a <;> rfl
@[simp] theorem putLens_freqD (a : Alphabet) (l : List Nat) (s : State) : (s.putLens a l).freqD = s.freqD := by cases a <;> rfl
@[simp] theorem putLens_freqCL (a : Alphabet) (l : List Nat) (s : State) : (s.putLens a l).freqCL = s.freqCL := by cases a <;> rfl
@[simp] theorem putLens_codeLL (a : Alphabet) (l : List Nat) (s : State) : (s.putLens a l).codeLL = s.codeLL := by cases a <;> rfl
@[simp] theorem putLens_codeD (a : Alphabet) (l : List Nat) (s : State) : (s.putLens a l).codeD = s.codeD := by cases a <;> rfl
@[simp] theorem putLens_codeCL (a : Alphabet) (l : List Nat) (s : State) : (s.putLens a l).codeCL = s.codeCL := by cases a <;> rfl
@[simp] theorem putLens_rle (a : Alphabet) (l : List Nat) (s : State) : (s.putLens a l).rle = s.rle := by cases a <;> rfl
@[simp] theorem putLens_enc (a : Alphabet) (l : List Nat) (s : State) : (s.putLens a l).enc = s.enc := by cases a <;> rfl
@[simp] theorem putLens_dec (a : Alphabet) (l : List Nat) (s : State) : (s.putLens a l).dec = s.dec := by cases a <;> rfl
@[simp] theorem putLens_sdec (a : Alphabet) (l : List Nat) (s : State) : (s.putLens a l).sdec = s.sdec := by cases a <;> rfl

/-! ### putCodes -/

@[simp] theorem putCodes_params (a : Alphabet) (c : List Nat) (s : State) : (s.putCodes a c).params = s.params := by cases a <;> rfl
@[simp] theorem putCodes_grain (a : Alphabet) (c : List Nat) (s : State) : (s.putCodes a c).grain = s.grain := by cases a <;> rfl
@[simp] theorem putCodes_port (a : Alphabet) (c : List Nat) (s : State) : (s.putCodes a c).port = s.port := by cases a <;> rfl
@[simp] theorem putCodes_result (a : Alphabet) (c : List Nat) (s : State) : (s.putCodes a c).result = s.result := by cases a <;> rfl
@[simp] theorem putCodes_freeCtr (a : Alphabet) (c : List Nat) (s : State) : (s.putCodes a c).freeCtr = s.freeCtr := by cases a <;> rfl
@[simp] theorem putCodes_seq (a : Alphabet) (c : List Nat) (s : State) : (s.putCodes a c).seq = s.seq := by cases a <;> rfl
@[simp] theorem putCodes_status (a : Alphabet) (c : List Nat) (s : State) : (s.putCodes a c).status = s.status := by cases a <;> rfl
@[simp] theorem putCodes_cfg (a : Alphabet) (c : List Nat) (s : State) : (s.putCodes a c).cfg = s.cfg := by cases a <;> rfl
@[simp] theorem putCodes_inMem (a : Alphabet) (c : List Nat) (s : State) : (s.putCodes a c).inMem = s.inMem := by cases a <;> rfl
@[simp] theorem putCodes_inKept (a : Alphabet) (c : List Nat) (s : State) : (s.putCodes a c).inKept = s.inKept := by cases a <;> rfl
@[simp] theorem putCodes_bw (a : Alphabet) (c : List Nat) (s : State) : (s.putCodes a c).bw = s.bw := by cases a <;> rfl
@[simp] theorem putCodes_br (a : Alphabet) (c : List Nat) (s : State) : (s.putCodes a c).br = s.br := by cases a <;> rfl
@[simp] theorem putCodes_htb (a : Alphabet) (c : List Nat) (s : State) : (s.putCodes a c).htb = s.htb := by cases a <;> rfl
@[simp] theorem putCodes_built (a : Alphabet) (c : List Nat) (s : State) : (s.putCodes a c).built = s.built := by cases a <;> rfl
@[simp] theorem putCodes_lzm (a : Alphabet) (c : List Nat) (s : State) : (s.putCodes a c).lzm = s.lzm := by cases a <;> rfl
@[simp] theorem putCodes_chain (a : Alphabet) (c : List Nat) (s : State) : (s.putCodes a c).chain = s.chain := by cases a <;> rfl
@[simp] theorem putCodes_tok (a : Alphabet) (c : List Nat) (s : State) : (s.putCodes a c).tok = s.tok := by cases a <;> rfl
@[simp] theorem putCodes_freqLL (a : Alphabet) (c : List Nat) (s : State) : (s.putCodes a c).freqLL = s.freqLL := by cases a <;> rfl
@[simp] theorem putCodes_freqD (a : Alphabet) (c : List Nat) (s : State) : (s.putCodes a c).freqD = s.freqD := by cases a <;> rfl
@[simp] theorem putCodes_freqCL (a : Alphabet) (c : List Nat) (s : State) : (s.putCodes a c).freqCL = s.freqCL := by cases a <;> rfl
@[simp] theorem putCodes_lenLL (a : Alphabet) (c : List Nat) (s : State) : (s.putCodes a c).lenLL = s.lenLL := by cases a <;> rfl
@[simp] theorem putCodes_lenD (a : Alphabet) (c : List Nat) (s : State) : (s.putCodes a c).lenD = s.lenD := by cases a <;> rfl
@[simp] theorem putCodes_lenCL (a : Alphabet) (c : List Nat) (s : State) : (s.putCodes a c).lenCL = s.lenCL := by cases a <;> rfl
@[simp] theorem putCodes_rle (a : Alphabet) (c : List Nat) (s : State) : (s.putCodes a c).rle = s.rle := by cases a <;> rfl
@[simp] theorem putCodes_enc (a : Alphabet) (c : List Nat) (s : State) : (s.putCodes a c).enc = s.enc := by cases a <;> rfl
@[simp] theorem putCodes_dec (a : Alphabet) (c : List Nat) (s : State) : (s.putCodes a c).dec = s.dec := by cases a <;> rfl
@[simp] theorem putCodes_sdec (a : Alphabet) (c : List Nat) (s : State) : (s.putCodes a c).sdec = s.sdec := by cases a <;> rfl

end Sys2Proof.Machine
end

