-- ==== Sys2Proof/Laws/Ops.lean ====
section
/-! SUPPORT. One lemma per shared operation that says what it can do; later proofs cite these instead of unfolding. -/

namespace Sys2Proof.Machine

/-! ## Ends of a command -/

@[simp] theorem conclude_ok (s : State) : conclude (.ok s) = .next s := rfl
@[simp] theorem conclude_error (s : State) : conclude (.error s) = .next s := rfl

/-- An operation that is concluded always goes on. -/
theorem conclude_next (a : Act State) : ∃ t, conclude a = .next t := by cases a <;> exact ⟨_, rfl⟩

/-- A command is refused while a fault is recorded (R333). -/
theorem framed_refused {c : Bool} {s : State} {f : FaultCode} {body : State → Outcome} (h : s.status.fault = some f) :
    framed c s body = .next (refuse f s) := by simp [framed, h]

/-- Otherwise it runs in the frame of R375. -/
theorem framed_runs {c : Bool} {s : State} {body : State → Outcome} (h : s.status.fault = none) :
    framed c s body = body (beginCommand c s) := by simp [framed, h]

/-- The reader's bytes are in IN: the command runs. -/
theorem withInput_runs {s : State} {body : State → Outcome} (h : s.inKept = true)
    (h' : s.br.inputLength ≤ s.inMem.length) : withInput s body = body s := by simp [withInput, h, h']

/-- Otherwise the model has no move (U9). -/
theorem withInput_stops {s : State} {body : State → Outcome} (h : ¬(s.inKept = true ∧ s.br.inputLength ≤ s.inMem.length)) :
    withInput s body = .fault .inputWithdrawn := by simp [withInput, h]

@[simp] theorem unspecified_cfg (s : State) : s.unspecified.cfg = s.cfg := rfl
@[simp] theorem unspecified_params (s : State) : s.unspecified.params = s.params := rfl
@[simp] theorem unspecified_port (s : State) : s.unspecified.port = s.port := rfl
@[simp] theorem unspecified_grain (s : State) : s.unspecified.grain = s.grain := rfl

/-! ## Bit reversal (R14) -/

theorem revBits_lt (n v : Nat) : revBits n v < 2 ^ n := by
  induction n generalizing v with
  | zero => simp [revBits]
  | succ n ih =>
    have h := ih (v / 2)
    have h2 : v % 2 < 2 := Nat.mod_lt _ (by omega)
    rw [revBits, Nat.pow_succ]
    have : v % 2 * 2 ^ n ≤ 1 * 2 ^ n := Nat.mul_le_mul_right _ (by omega)
    omega

/-- `rev_n(v)[i] = v[n-1-i]` (R14). -/
theorem revBits_testBit (n v i : Nat) (h : i < n) : (revBits n v).testBit i = v.testBit (n - 1 - i) := by
  induction n generalizing v i with
  | zero => omega
  | succ n ih =>
    rw [revBits, Nat.mul_comm]
    by_cases hi : i = n
    · subst hi
      rw [Nat.testBit_two_pow_mul_add _ (revBits_lt _ _)]
      simp [Nat.testBit_zero]
    · rw [Nat.testBit_two_pow_mul_add _ (revBits_lt _ _), if_pos (by omega), ih _ _ (by omega)]
      rw [show n + 1 - 1 - i = (n - 1 - i) + 1 by omega, Nat.testBit_succ]

/-! ## The writer (R142) -/

/-- BW.WRITE appends, when its operands are in range. -/
theorem bwWrite_ok {value n : Nat} {reversed : Bool} {s : State} (h : s.bw.isOpen = true) (hn : n ≤ 32)
    (hv : value < 2 ^ n) :
    bwWrite value n reversed s = .ok { s with bw := s.bw.pushBits (if reversed then revBits n value else value) n } := by
  simp [bwWrite, h, hn, hv]

/-- Otherwise it is E_API(n). -/
theorem bwWrite_error {value n : Nat} {reversed : Bool} {s : State}
    (h : ¬(s.bw.isOpen = true ∧ n ≤ 32 ∧ value < 2 ^ n)) : bwWrite value n reversed s = .error (raise .eApi n s) := by
  rw [bwWrite, if_neg h]

theorem Writer.pushBit_isOpen (w : Writer) (b : Bool) : (w.pushBit b).isOpen = w.isOpen := by
  unfold Writer.pushBit; split <;> rfl

theorem Writer.pushBits_isOpen (v n : Nat) (w : Writer) : (w.pushBits v n).isOpen = w.isOpen := by
  induction n generalizing w with
  | zero => rfl
  | succ n ih => rw [Writer.pushBits, ih, Writer.pushBit_isOpen]

/-- One bit more, in the terms of R141. -/
theorem Writer.pushBit_count (w : Writer) (b : Bool) (h : w.bitIndex ≤ 7) :
    8 * (w.pushBit b).byteIndex + (w.pushBit b).bitIndex = 8 * w.byteIndex + w.bitIndex + 1 ∧
      (w.pushBit b).bitIndex ≤ 7 := by
  unfold Writer.pushBit
  split <;> simp only <;> omega

/-- BW.WRITE of n bits makes W n bits longer (R141). -/
theorem Writer.pushBits_count (v n : Nat) (w : Writer) (h : w.bitIndex ≤ 7) :
    8 * (w.pushBits v n).byteIndex + (w.pushBits v n).bitIndex = 8 * w.byteIndex + w.bitIndex + n ∧
      (w.pushBits v n).bitIndex ≤ 7 := by
  induction n generalizing w with
  | zero => exact ⟨rfl, h⟩
  | succ n ih =>
    obtain ⟨h1, h2⟩ := Writer.pushBit_count w (v.testBit n) h
    obtain ⟨h3, h4⟩ := ih (w.pushBit (v.testBit n)) h2
    exact ⟨by rw [Writer.pushBits, h3, h1]; omega, h4⟩

/-! ## The reader (R147, R149) -/

/-- Loading bytes changes the input index, the accumulator and its length only. -/
theorem Reader.refill_frame (m : Memory) (n fuel : Nat) (r : Reader) :
    (r.refill m n fuel).inputLength = r.inputLength ∧ (r.refill m n fuel).save = r.save ∧
      (r.refill m n fuel).saved = r.saved := by
  induction fuel generalizing r with
  | zero => exact ⟨rfl, rfl, rfl⟩
  | succ fuel ih =>
    rw [Reader.refill]
    split
    · split
      · exact ih _
      · exact ⟨rfl, rfl, rfl⟩
    · exact ⟨rfl, rfl, rfl⟩

/-- Loading bytes does not move BR.P (R146). -/
theorem Reader.refill_pos (m : Memory) (n fuel : Nat) (r : Reader) : (r.refill m n fuel).pos = r.pos := by
  induction fuel generalizing r with
  | zero => rfl
  | succ fuel ih =>
    rw [Reader.refill]
    split
    · split
      · rw [ih]; simp only [Reader.pos]; omega
      · rfl
    · rfl

/-- A byte beside an accumulator of `k` bits. -/
theorem or_shiftLeft_lt {acc k : Nat} (b : Byte) (h : acc < 2 ^ k) : acc ||| (b.toNat <<< k) < 2 ^ (k + 8) := by
  refine Nat.or_lt_two_pow (h.trans_le (Nat.pow_le_pow_right (by omega) (by omega))) ?_
  rw [Nat.shiftLeft_eq, Nat.pow_add, Nat.mul_comm]
  exact Nat.mul_lt_mul_of_pos_left b.isLt (Nat.two_pow_pos k)

/-- Loading for at most 16 bits keeps the width law of R153. -/
theorem Reader.refill_bounded (m : Memory) (n fuel : Nat) (r : Reader) (hn : n ≤ 16) (h : r.bounded) :
    (r.refill m n fuel).bounded := by
  induction fuel generalizing r with
  | zero => exact h
  | succ fuel ih =>
    rw [Reader.refill]
    split
    · rename_i hlt
      split
      · exact ih _ ⟨by simp only; omega, or_shiftLeft_lt _ h.2.1, h.2.2⟩
      · exact h
    · exact h

/-- Consuming bits keeps the bounds. -/
theorem Reader.drop_bounded (n : Nat) (r : Reader) (h : r.bounded) : (r.drop n).bounded := by
  refine ⟨by simp only [Reader.drop]; exact (Nat.sub_le _ _).trans h.1, ?_, h.2.2⟩
  simp only [Reader.drop, Nat.shiftRight_eq_div_pow]
  by_cases hn : n ≤ r.acclen
  · rw [Nat.div_lt_iff_lt_mul (Nat.two_pow_pos n), ← Nat.pow_add, Nat.sub_add_cancel hn]; exact h.2.1
  · rw [Nat.sub_eq_zero_of_le (by omega)]
    rw [Nat.div_eq_of_lt (h.2.1.trans (Nat.pow_lt_pow_right (by omega) (by omega)))]
    simp

theorem Reader.keep_bounded (r : Reader) (h : r.bounded) : r.keep.bounded := ⟨h.1, h.2.1, h.1, h.2.1⟩
theorem Reader.back_bounded (r : Reader) (h : r.bounded) : r.back.bounded := ⟨h.2.2.1, h.2.2.2, h.2.2⟩

/-- What BR.READ answers: the low bits and a reader that dropped them, or exhaustion with the bytes it loaded. -/
theorem readBits_cases (n : Nat) (s : State) :
    (∃ v, v < 2 ^ n ∧ readBits n s = .ok (v, { s with br := (s.br.refill s.inMem n n).drop n })) ∨
      readBits n s = .error (exhausted { s with br := s.br.refill s.inMem n n }) := by
  unfold readBits
  by_cases h : (s.br.refill s.inMem n n).acclen < n
  · exact .inr (by simp [h])
  · exact .inl ⟨_, Nat.mod_lt (s.br.refill s.inMem n n).acc (Nat.two_pow_pos n), by simp only [h, if_false]⟩

/-- BR.READ 0 answers 0 and changes nothing (R147). -/
theorem readBits_zero (s : State) : readBits 0 s = .ok (0, s) := by
  simp [readBits, Reader.refill, Reader.drop, Nat.mod_one]

/-- What executing a decode-table entry answers (R149). -/
theorem consumeEntry_cases (index maxLen cl sym : Nat) (s : State) :
    (cl ≠ 0 ∧ cl ≤ s.br.acclen ∧ consumeEntry index maxLen cl sym s = .ok (sym, { s with br := s.br.drop cl })) ∨
      consumeEntry index maxLen cl sym s = .error (exhausted s) ∨
      (cl = 0 ∧ maxLen ≤ s.br.acclen ∧ consumeEntry index maxLen cl sym s = .error (raise .eCode index s)) := by
  unfold consumeEntry
  by_cases h : cl = 0
  · by_cases h2 : s.br.acclen < maxLen
    · exact .inr (.inl (by simp [h, h2]))
    · exact .inr (.inr ⟨h, by omega, by simp [h, h2]⟩)
  · by_cases h2 : cl > s.br.acclen
    · exact .inr (.inl (by simp [h, h2]))
    · exact .inl ⟨h, by omega, by simp [h, h2]⟩

/-! ## Output (R276, R277) -/

/-- What Emit answers: one byte more in O, or E_OVERFLOW at the ceiling. -/
theorem emit_cases (b : Byte) (s : State) :
    emit b s = .ok { s with dec := { s.dec with out := s.dec.out ++ [b] } } ∨
      (s.params.maxOutputBytes = some s.dec.op ∧ s.job ≠ some .block ∧
        emit b s = .error (raise .eOverflow s.dec.op s)) := by
  unfold emit
  by_cases h : s.job ≠ some .block ∧ s.params.maxOutputBytes = some s.dec.op
  · exact .inr ⟨h.2, h.1, by rw [if_pos h]⟩
  · exact .inl (by rw [if_neg h])

/-- Copy changes O only, appending `length` bytes, or ends in E_OVERFLOW. -/
theorem copyMatch_cases (d n : Nat) (s : State) :
    (∃ bs : List Byte, bs.length = n ∧
      copyMatch d n s = .ok { s with dec := { s.dec with out := s.dec.out ++ bs } }) ∨
      ∃ t info, copyMatch d n s = .error (raise .eOverflow info t) := by
  induction n generalizing s with
  | zero => exact .inl ⟨[], rfl, by simp [copyMatch]⟩
  | succ n ih =>
    rw [copyMatch]
    rcases emit_cases (s.dec.out.getD (s.dec.op - d) 0) s with h | ⟨-, -, h⟩
    · rw [h]
      rcases ih { s with dec := { s.dec with out := s.dec.out ++ [s.dec.out.getD (s.dec.op - d) 0] } } with
        ⟨bs, hl, hb⟩ | ⟨t, info, hb⟩
      · exact .inl ⟨s.dec.out.getD (s.dec.op - d) 0 :: bs, by simp [hl], by simp only [hb, List.append_assoc]; rfl⟩
      · exact .inr ⟨t, info, hb⟩
    · rw [h]; exact .inr ⟨_, _, rfl⟩

/-! ## Elements -/

/-- On an element of the stream, a token or a table entry, `exec` is the element's meaning. -/
theorem exec_eq_execElement (i : Instr) (s : State) (h : (encode i).format ≠ .cmd) : exec i s = execElement i s := by
  cases i <;> first | rfl | exact absurd rfl h

/-- What a fetch hands to the decoder is never a host command. -/
theorem fetchElement_format {s t : State} {r : Raw} (h : fetchElement s = .ok (r, t)) : r.format ≠ .cmd := by
  have sym : ∀ (f : Format) (w : Nat) (tb : DecodeTable) (x : Nat → Nat) (s : State), f ≠ .cmd →
      fetchSymbol f w tb x s = .ok (r, t) → r.format ≠ .cmd := by
    intro f w tb x s hf h
    unfold fetchSymbol at h
    split at h
    · cases h
    · split at h
      · cases h
      · cases h; exact hf
  have fields : ∀ (f : Format) (n m : Nat) (s u : State) (q : Raw), f ≠ .cmd →
      fetchFields f n m s = .ok (q, u) → q.format ≠ .cmd := by
    intro f n m s u q hf h
    unfold fetchFields at h
    split at h
    · cases h
    · split at h
      · cases h
      · cases h; exact hf
  unfold fetchElement at h
  split at h
  · cases h
  · cases h; simp
  · unfold fetchToken at h
    split at h
    · cases h
    · split at h
      · split at h
        · cases h; simp
        · cases h
      · cases h; simp
  · exact fields _ _ _ _ _ _ (by simp) h
  · exact fields _ _ _ _ _ _ (by simp) h
  · unfold fetchCounts at h
    split at h
    · cases h
    · rename_i q u hq
      have hf := fields _ _ _ _ u q (by simp) hq
      split at h
      · cases h
      · cases h; exact hf
  · exact sym _ _ _ _ _ (by simp) h
  · exact sym _ _ _ _ _ (by simp) h
  · unfold fetchDistance at h
    split at h
    split at h
    · cases h; simp
    · exact sym _ _ _ _ _ (by simp) h

/-- Decoding keeps the format: the instruction read from a raw encodes in the format it was read from. -/
theorem decode_format {r : Raw} {i : Instr} (h : decode r = .ok i) : (encode i).format = r.format := by
  have bare' : ∀ {j i : Instr} {x : Nat}, bare j x = .ok i → i = j := by
    intro j i x h; unfold bare at h; split at h
    · cases h; rfl
    · cases h
  have ext' : ∀ {w : Nat} {f : BitVec w → Instr} {i : Instr} {x : Nat}, withExtra w f x = .ok i → ∃ b, i = f b := by
    intro w f i x h; unfold withExtra at h; split at h
    · cases h; exact ⟨_, rfl⟩
    · cases h
  obtain ⟨fmt, w, ops⟩ := r
  cases fmt
  · simp only [decode] at h ⊢
    unfold decodeCmd at h
    split at h <;> first | (cases h; rfl) | skip
    split at h
    · cases h
    · split at h <;> cases h
  · simp only [decode] at h ⊢
    unfold decodeBlkHdr at h
    dsimp only at h
    split at h <;> cases h <;> rfl
  · simp only [decode] at h ⊢
    unfold decodeStored at h
    split at h <;> cases h; rfl
  · simp only [decode] at h ⊢
    unfold decodeDynHdr at h
    split at h <;> cases h; rfl
  · simp only [decode] at h ⊢
    unfold decodeClSym at h
    split at h <;>
      first
      | (rw [bare' h]; rfl)
      | (obtain ⟨b, rfl⟩ := ext' h; rfl)
      | cases h
  · simp only [decode] at h ⊢
    unfold decodeLitLen at h
    split at h
    · rw [bare' h]; rfl
    · split at h <;>
        first
        | (rw [bare' h]; rfl)
        | (obtain ⟨b, rfl⟩ := ext' h; rfl)
        | cases h
  · simp only [decode] at h ⊢
    unfold decodeDist at h
    split at h <;>
      first
      | (rw [bare' h]; rfl)
      | (obtain ⟨b, rfl⟩ := ext' h; rfl)
      | cases h
  · simp only [decode] at h ⊢
    unfold decodeToken at h
    dsimp only at h
    split at h
    · rw [bare' h]; rfl
    · split at h
      · rw [bare' h]; rfl
      · split at h
        · split at h <;> cases h; rfl
        · cases h
  · simp only [decode] at h ⊢
    unfold decodeDte at h
    split at h <;> cases h; rfl

/-- A step of a running command is one turn of it: what the machine does with whole commands it does turn by turn. -/
theorem runElement_eq_turn (s : State) : runElement s = turn s := by
  unfold runElement turn
  cases h : fetchElement s with
  | error t => rfl
  | ok x =>
    obtain ⟨r, t⟩ := x
    cases hi : decode r with
    | error e => simp only [hi]
    | ok i =>
      simp only [hi]
      exact exec_eq_execElement i t (by rw [decode_format hi]; exact fetchElement_format h)

/-! ## The step -/

/-- An idle core with nothing pending. -/
theorem step_idle {s : State} (h : s.seq = .idle) (hp : s.port = []) : step s = .next s := by simp [step, h, hp]

/-- An idle core takes the oldest pending command. -/
theorem step_command {s : State} {it : Issue} {rest : List Issue} (h : s.seq = .idle) (hp : s.port = it :: rest) :
    step s = runCommand it (accept it rest s) := by simp [step, h, hp]

/-- A running command takes its next turn. -/
theorem step_busy {s : State} (h : s.seq ≠ .idle) : step s = runElement s := by
  unfold step
  split
  · rename_i h'; exact absurd h' h
  · rfl

end Sys2Proof.Machine
end

