-- ==== Sys2Proof/Laws/PerInstr.lean ====
section
/-! SUPPORT. Facts about every instruction as syntax, one lemma per constructor. `WordFits`: the encoded word of an
instruction has no bit beyond its length (30_encoding.md R91 to R97, R120 to R130). -/

set_option Elab.async false

namespace Sys2Proof.Laws

/-- The encoded word fits in its bits. -/
def WordFits.Statement (i : Instr) : Prop := (encode i).word < 2 ^ wordBits i

namespace WordFits

theorem reset : Statement (.reset) := by unfold Statement; decide
theorem bwInit : Statement (.bwInit) := by unfold Statement; decide
theorem bwWrite (value n : Nat) (reversed : Bool) : Statement (.bwWrite value n reversed) := by simp [Statement, encode, wordBits]
theorem bwFinish : Statement (.bwFinish) := by unfold Statement; decide
theorem brInit : Statement (.brInit) := by unfold Statement; decide
theorem brRead (n : Nat) : Statement (.brRead n) := by simp [Statement, encode, wordBits]
theorem brDecode (table : DecodeTable) : Statement (.brDecode table) := by simp [Statement, encode, wordBits]
theorem brAlign : Statement (.brAlign) := by unfold Statement; decide
theorem brSave : Statement (.brSave) := by unfold Statement; decide
theorem brRestore : Statement (.brRestore) := by unfold Statement; decide
theorem htbBuild (lengths : TableArg) : Statement (.htbBuild lengths) := by simp [Statement, encode, wordBits]
theorem lzmRun : Statement (.lzmRun) := by unfold Statement; decide
theorem ccbLengths (freq : TableArg) (limit : Nat) : Statement (.ccbLengths freq limit) := by simp [Statement, encode, wordBits]
theorem ccbCodes (lengths : TableArg) : Statement (.ccbCodes lengths) := by simp [Statement, encode, wordBits]
theorem ccbRle (seq : List Nat) : Statement (.ccbRle seq) := by simp [Statement, encode, wordBits]
theorem encStored : Statement (.encStored) := by unfold Statement; decide
theorem encFixed : Statement (.encFixed) := by unfold Statement; decide
theorem encDynamic : Statement (.encDynamic) := by unfold Statement; decide
theorem decBlock : Statement (.decBlock) := by unfold Statement; decide
theorem decAdaptive : Statement (.decAdaptive) := by unfold Statement; decide
theorem sdecInit : Statement (.sdecInit) := by unfold Statement; decide
theorem sdecCall (chunk : Option (List Byte)) (startOffset : Option Nat) : Statement (.sdecCall chunk startOffset) := by simp [Statement, encode, wordBits]
theorem rdConsumed : Statement (.rdConsumed) := by unfold Statement; decide
theorem blockStored (bfinal : Bool) : Statement (.blockStored bfinal) := by cases bfinal <;> (unfold Statement; decide)
theorem blockFixed (bfinal : Bool) : Statement (.blockFixed bfinal) := by cases bfinal <;> (unfold Statement; decide)
theorem blockDynamic (bfinal : Bool) : Statement (.blockDynamic bfinal) := by cases bfinal <;> (unfold Statement; decide)
theorem blockReserved (bfinal : Bool) : Statement (.blockReserved bfinal) := by cases bfinal <;> (unfold Statement; decide)
theorem lit (b : Byte) : Statement (.lit b) := by
  simp only [Statement, encode, wordBits]
  have hb := b.isLt
  omega
theorem eob : Statement (.eob) := by unfold Statement; decide
theorem len257 : Statement (.len257) := by unfold Statement; decide
theorem len258 : Statement (.len258) := by unfold Statement; decide
theorem len259 : Statement (.len259) := by unfold Statement; decide
theorem len260 : Statement (.len260) := by unfold Statement; decide
theorem len261 : Statement (.len261) := by unfold Statement; decide
theorem len262 : Statement (.len262) := by unfold Statement; decide
theorem len263 : Statement (.len263) := by unfold Statement; decide
theorem len264 : Statement (.len264) := by unfold Statement; decide
theorem len265 (extra : BitVec 1) : Statement (.len265 extra) := by
  simp only [Statement, encode, wordBits]
  have hextra := extra.isLt
  omega
theorem len266 (extra : BitVec 1) : Statement (.len266 extra) := by
  simp only [Statement, encode, wordBits]
  have hextra := extra.isLt
  omega
theorem len267 (extra : BitVec 1) : Statement (.len267 extra) := by
  simp only [Statement, encode, wordBits]
  have hextra := extra.isLt
  omega
theorem len268 (extra : BitVec 1) : Statement (.len268 extra) := by
  simp only [Statement, encode, wordBits]
  have hextra := extra.isLt
  omega
theorem len269 (extra : BitVec 2) : Statement (.len269 extra) := by
  simp only [Statement, encode, wordBits]
  have hextra := extra.isLt
  omega
theorem len270 (extra : BitVec 2) : Statement (.len270 extra) := by
  simp only [Statement, encode, wordBits]
  have hextra := extra.isLt
  omega
theorem len271 (extra : BitVec 2) : Statement (.len271 extra) := by
  simp only [Statement, encode, wordBits]
  have hextra := extra.isLt
  omega
theorem len272 (extra : BitVec 2) : Statement (.len272 extra) := by
  simp only [Statement, encode, wordBits]
  have hextra := extra.isLt
  omega
theorem len273 (extra : BitVec 3) : Statement (.len273 extra) := by
  simp only [Statement, encode, wordBits]
  have hextra := extra.isLt
  omega
theorem len274 (extra : BitVec 3) : Statement (.len274 extra) := by
  simp only [Statement, encode, wordBits]
  have hextra := extra.isLt
  omega
theorem len275 (extra : BitVec 3) : Statement (.len275 extra) := by
  simp only [Statement, encode, wordBits]
  have hextra := extra.isLt
  omega
theorem len276 (extra : BitVec 3) : Statement (.len276 extra) := by
  simp only [Statement, encode, wordBits]
  have hextra := extra.isLt
  omega
theorem len277 (extra : BitVec 4) : Statement (.len277 extra) := by
  simp only [Statement, encode, wordBits]
  have hextra := extra.isLt
  omega
theorem len278 (extra : BitVec 4) : Statement (.len278 extra) := by
  simp only [Statement, encode, wordBits]
  have hextra := extra.isLt
  omega
theorem len279 (extra : BitVec 4) : Statement (.len279 extra) := by
  simp only [Statement, encode, wordBits]
  have hextra := extra.isLt
  omega
theorem len280 (extra : BitVec 4) : Statement (.len280 extra) := by
  simp only [Statement, encode, wordBits]
  have hextra := extra.isLt
  omega
theorem len281 (extra : BitVec 5) : Statement (.len281 extra) := by
  simp only [Statement, encode, wordBits]
  have hextra := extra.isLt
  omega
theorem len282 (extra : BitVec 5) : Statement (.len282 extra) := by
  simp only [Statement, encode, wordBits]
  have hextra := extra.isLt
  omega
theorem len283 (extra : BitVec 5) : Statement (.len283 extra) := by
  simp only [Statement, encode, wordBits]
  have hextra := extra.isLt
  omega
theorem len284 (extra : BitVec 5) : Statement (.len284 extra) := by
  simp only [Statement, encode, wordBits]
  have hextra := extra.isLt
  omega
theorem len285 : Statement (.len285) := by unfold Statement; decide
theorem llInvalid286 : Statement (.llInvalid286) := by unfold Statement; decide
theorem llInvalid287 : Statement (.llInvalid287) := by unfold Statement; decide
theorem dist0 : Statement (.dist0) := by unfold Statement; decide
theorem dist1 : Statement (.dist1) := by unfold Statement; decide
theorem dist2 : Statement (.dist2) := by unfold Statement; decide
theorem dist3 : Statement (.dist3) := by unfold Statement; decide
theorem dist4 (extra : BitVec 1) : Statement (.dist4 extra) := by
  simp only [Statement, encode, wordBits]
  have hextra := extra.isLt
  omega
theorem dist5 (extra : BitVec 1) : Statement (.dist5 extra) := by
  simp only [Statement, encode, wordBits]
  have hextra := extra.isLt
  omega
theorem dist6 (extra : BitVec 2) : Statement (.dist6 extra) := by
  simp only [Statement, encode, wordBits]
  have hextra := extra.isLt
  omega
theorem dist7 (extra : BitVec 2) : Statement (.dist7 extra) := by
  simp only [Statement, encode, wordBits]
  have hextra := extra.isLt
  omega
theorem dist8 (extra : BitVec 3) : Statement (.dist8 extra) := by
  simp only [Statement, encode, wordBits]
  have hextra := extra.isLt
  omega
theorem dist9 (extra : BitVec 3) : Statement (.dist9 extra) := by
  simp only [Statement, encode, wordBits]
  have hextra := extra.isLt
  omega
theorem dist10 (extra : BitVec 4) : Statement (.dist10 extra) := by
  simp only [Statement, encode, wordBits]
  have hextra := extra.isLt
  omega
theorem dist11 (extra : BitVec 4) : Statement (.dist11 extra) := by
  simp only [Statement, encode, wordBits]
  have hextra := extra.isLt
  omega
theorem dist12 (extra : BitVec 5) : Statement (.dist12 extra) := by
  simp only [Statement, encode, wordBits]
  have hextra := extra.isLt
  omega
theorem dist13 (extra : BitVec 5) : Statement (.dist13 extra) := by
  simp only [Statement, encode, wordBits]
  have hextra := extra.isLt
  omega
theorem dist14 (extra : BitVec 6) : Statement (.dist14 extra) := by
  simp only [Statement, encode, wordBits]
  have hextra := extra.isLt
  omega
theorem dist15 (extra : BitVec 6) : Statement (.dist15 extra) := by
  simp only [Statement, encode, wordBits]
  have hextra := extra.isLt
  omega
theorem dist16 (extra : BitVec 7) : Statement (.dist16 extra) := by
  simp only [Statement, encode, wordBits]
  have hextra := extra.isLt
  omega
theorem dist17 (extra : BitVec 7) : Statement (.dist17 extra) := by
  simp only [Statement, encode, wordBits]
  have hextra := extra.isLt
  omega
theorem dist18 (extra : BitVec 8) : Statement (.dist18 extra) := by
  simp only [Statement, encode, wordBits]
  have hextra := extra.isLt
  omega
theorem dist19 (extra : BitVec 8) : Statement (.dist19 extra) := by
  simp only [Statement, encode, wordBits]
  have hextra := extra.isLt
  omega
theorem dist20 (extra : BitVec 9) : Statement (.dist20 extra) := by
  simp only [Statement, encode, wordBits]
  have hextra := extra.isLt
  omega
theorem dist21 (extra : BitVec 9) : Statement (.dist21 extra) := by
  simp only [Statement, encode, wordBits]
  have hextra := extra.isLt
  omega
theorem dist22 (extra : BitVec 10) : Statement (.dist22 extra) := by
  simp only [Statement, encode, wordBits]
  have hextra := extra.isLt
  omega
theorem dist23 (extra : BitVec 10) : Statement (.dist23 extra) := by
  simp only [Statement, encode, wordBits]
  have hextra := extra.isLt
  omega
theorem dist24 (extra : BitVec 11) : Statement (.dist24 extra) := by
  simp only [Statement, encode, wordBits]
  have hextra := extra.isLt
  omega
theorem dist25 (extra : BitVec 11) : Statement (.dist25 extra) := by
  simp only [Statement, encode, wordBits]
  have hextra := extra.isLt
  omega
theorem dist26 (extra : BitVec 12) : Statement (.dist26 extra) := by
  simp only [Statement, encode, wordBits]
  have hextra := extra.isLt
  omega
theorem dist27 (extra : BitVec 12) : Statement (.dist27 extra) := by
  simp only [Statement, encode, wordBits]
  have hextra := extra.isLt
  omega
theorem dist28 (extra : BitVec 13) : Statement (.dist28 extra) := by
  simp only [Statement, encode, wordBits]
  have hextra := extra.isLt
  omega
theorem dist29 (extra : BitVec 13) : Statement (.dist29 extra) := by
  simp only [Statement, encode, wordBits]
  have hextra := extra.isLt
  omega
theorem distInvalid30 : Statement (.distInvalid30) := by unfold Statement; decide
theorem distInvalid31 : Statement (.distInvalid31) := by unfold Statement; decide
theorem cl0 : Statement (.cl0) := by unfold Statement; decide
theorem cl1 : Statement (.cl1) := by unfold Statement; decide
theorem cl2 : Statement (.cl2) := by unfold Statement; decide
theorem cl3 : Statement (.cl3) := by unfold Statement; decide
theorem cl4 : Statement (.cl4) := by unfold Statement; decide
theorem cl5 : Statement (.cl5) := by unfold Statement; decide
theorem cl6 : Statement (.cl6) := by unfold Statement; decide
theorem cl7 : Statement (.cl7) := by unfold Statement; decide
theorem cl8 : Statement (.cl8) := by unfold Statement; decide
theorem cl9 : Statement (.cl9) := by unfold Statement; decide
theorem cl10 : Statement (.cl10) := by unfold Statement; decide
theorem cl11 : Statement (.cl11) := by unfold Statement; decide
theorem cl12 : Statement (.cl12) := by unfold Statement; decide
theorem cl13 : Statement (.cl13) := by unfold Statement; decide
theorem cl14 : Statement (.cl14) := by unfold Statement; decide
theorem cl15 : Statement (.cl15) := by unfold Statement; decide
theorem cl16 (extra : BitVec 2) : Statement (.cl16 extra) := by
  simp only [Statement, encode, wordBits]
  have hextra := extra.isLt
  omega
theorem cl17 (extra : BitVec 3) : Statement (.cl17 extra) := by
  simp only [Statement, encode, wordBits]
  have hextra := extra.isLt
  omega
theorem cl18 (extra : BitVec 7) : Statement (.cl18 extra) := by
  simp only [Statement, encode, wordBits]
  have hextra := extra.isLt
  omega
theorem dynHdr (hlit hdist : BitVec 5) (hclen : BitVec 4) : Statement (.dynHdr hlit hdist hclen) := by
  simp only [Statement, encode, wordBits]
  have hhlit := hlit.isLt
  have hhdist := hdist.isLt
  have hhclen := hclen.isLt
  omega
theorem storedHdr (len nlen : BitVec 16) : Statement (.storedHdr len nlen) := by
  simp only [Statement, encode, wordBits]
  have hlen := len.isLt
  have hnlen := nlen.isLt
  omega
theorem tLit (b : Byte) : Statement (.tLit b) := by
  simp only [Statement, encode, wordBits]
  have hb := b.isLt
  omega
theorem tEob : Statement (.tEob) := by unfold Statement; decide
theorem tMatch (lc : BitVec 8) (lextra lvalue dcode dextra dvalue : Slot) : Statement (.tMatch lc lextra lvalue dcode dextra dvalue) := by
  simp only [Statement, encode, wordBits, slotsWord]
  have hlc := lc.isLt
  have hlextra := lextra.isLt
  have hlvalue := lvalue.isLt
  have hdcode := dcode.isLt
  have hdextra := dextra.isLt
  have hdvalue := dvalue.isLt
  omega
theorem dte (codeLength symbol : BitVec 16) : Statement (.dte codeLength symbol) := by
  simp only [Statement, encode, wordBits]
  have hcodeLength := codeLength.isLt
  have hsymbol := symbol.isLt
  omega

end WordFits

end Sys2Proof.Laws
end

