-- ==== Sys2Proof/Tests/Slice0.lean ====
section
/-! SUPPORT. The model's own tests: ill-formed terms, words written out from the encoding tables of 30_encoding.md and
spec/opcode_table.json, the worked examples of the rules and of 95_test_vectors.md (named in each comment), and for every
statement with hypotheses a state and operands that meet them. -/

set_option Elab.async false
set_option maxRecDepth 20000

namespace Sys2Proof.Tests

open Sys2Proof.Machine

/-- The next state of an outcome; the reset state where there is none. -/
def stateOf : Outcome → State
  | .next s => s
  | _ => State.reset

/-- Is there a next state? -/
def isNext : Outcome → Bool
  | .next _ => true
  | _ => false

theorem next_stateOf {o : Outcome} (h : isNext o = true) : o = .next (stateOf o) := by
  cases o with
  | next s => rfl
  | fault r => simp [isNext] at h
  | refused r => simp [isNext] at h

/-- Bytes. -/
def bytes (l : List Nat) : List Byte := l.map (BitVec.ofNat 8)

/-- A command as the host issues it. -/
def issue (word : Nat) (ops : CmdOps := {}) : Issue := { cfg := none, input := none, word := BitVec.ofNat 16 word, ops := ops }

/-- After reset, with these bytes in IN. -/
def withIn (l : List Nat) : State := { State.reset with inMem := Memory.ofBytes 0 (bytes l) }

/-- The same with the reader on them, before bit `p` of the first byte. -/
def reading (l : List Nat) (p : Nat) : State :=
  { withIn l with
    br := { ip := 1, acc := l.headD 0 / 2 ^ p, acclen := 8 - p, inputLength := l.length, save := { ip := 0, acc := 0, acclen := 0 }
            saved := false } }

/-- A decode of job `j` stands before an element of kind `ph`. -/
def decoding (j : Job) (ph : Phase) (s : State) : State := { s with seq := .decode j ph }

/-- The writer is open and holds `n` bits of a partial byte. -/
def writing (current n : Nat) : State :=
  { State.reset with
    bw := { out := [], byteIndex := 0, bitIndex := n, current := BitVec.ofNat 8 current, isOpen := true } }

/-- A fault has been taken. -/
def faulted : State :=
  { State.reset with status := { fault := some .eCode, faultInfo := 5, done := false, needInput := false } }

/-- What a command shows its host. -/
def seen (o : Outcome) : Result × Option FaultCode × Nat × Bool × Bool :=
  let s := stateOf o
  (s.result, s.status.fault, s.status.faultInfo, s.status.done, s.status.needInput)

/-! ## Well-formedness -/

theorem test_illformed_bwWrite_n : Instr.wellFormed (.bwWrite 0 33 true) = false := by decide
theorem test_illformed_bwWrite_value : Instr.wellFormed (.bwWrite 4 2 false) = false := by decide
theorem test_illformed_brRead : Instr.wellFormed (.brRead 17) = false := by decide
theorem test_illformed_brDecode_maxLen : Instr.wellFormed (.brDecode { table := [], maxLen := 16, minLen := 1 }) = false := by decide
theorem test_illformed_brDecode_size : Instr.wellFormed (.brDecode { table := [0], maxLen := 1, minLen := 1 }) = false := by decide
theorem test_illformed_htbBuild_length : Instr.wellFormed (.htbBuild (.lit [16])) = false := by decide
theorem test_illformed_htbBuild_size : Instr.wellFormed (.htbBuild (.lit (List.replicate 289 0))) = false := by decide
theorem test_illformed_ccbLengths_zero : Instr.wellFormed (.ccbLengths (.reg .litLen) 0) = false := by decide
theorem test_illformed_ccbLengths_limit : Instr.wellFormed (.ccbLengths (.reg .litLen) 16) = false := by decide
theorem test_illformed_ccbCodes : Instr.wellFormed (.ccbCodes (.lit [16])) = false := by decide
theorem test_illformed_ccbRle : Instr.wellFormed (.ccbRle [16]) = false := by decide
theorem test_illformed_tMatch : Instr.wellFormed (.tMatch 0 0 0 0 0 0) = false := by decide
theorem test_illformed_dte_length : Instr.wellFormed (.dte 16 0) = false := by decide
theorem test_illformed_dte_symbol : Instr.wellFormed (.dte 1 288) = false := by decide

theorem test_wellformed_edges :
    Instr.wellFormed (.bwWrite 4294967295 32 true) = true ∧ Instr.wellFormed (.brRead 16) = true ∧
    Instr.wellFormed (.htbBuild (.lit [15])) = true ∧ Instr.wellFormed (.ccbLengths (.lit []) 15) = true ∧
    Instr.wellFormed (.tMatch 29 0 0 29 13 8191) = true ∧ Instr.wellFormed (.dte 15 287) = true := by decide

/-! ## Decoding: words written out bit by bit, every extra bit 1 -/

theorem test_decode_commands :
    decode ⟨.cmd, 0b0000000000000000, {}⟩ = .ok (.reset) ∧
    decode ⟨.cmd, 0b0000000000000001, {}⟩ = .ok (.bwInit) ∧
    decode ⟨.cmd, 0b0000000000000010, {}⟩ = .ok (.bwWrite 0 0 false) ∧
    decode ⟨.cmd, 0b0000000000000011, {}⟩ = .ok (.bwFinish) ∧
    decode ⟨.cmd, 0b0000000000001000, {}⟩ = .ok (.brInit) ∧
    decode ⟨.cmd, 0b0000000000001001, {}⟩ = .ok (.brRead 0) ∧
    decode ⟨.cmd, 0b0000000000001010, {}⟩ = .ok (.brDecode { table := [], maxLen := 0, minLen := 0 }) ∧
    decode ⟨.cmd, 0b0000000000001011, {}⟩ = .ok (.brAlign) ∧
    decode ⟨.cmd, 0b0000000000001100, {}⟩ = .ok (.brSave) ∧
    decode ⟨.cmd, 0b0000000000001101, {}⟩ = .ok (.brRestore) ∧
    decode ⟨.cmd, 0b0000000000010000, {}⟩ = .ok (.htbBuild (.lit [])) ∧
    decode ⟨.cmd, 0b0000000000011000, {}⟩ = .ok (.lzmRun) := by decide

theorem test_decode_commands_more :
    decode ⟨.cmd, 0b0000000000100000, {}⟩ = .ok (.ccbLengths (.lit []) 0) ∧
    decode ⟨.cmd, 0b0000000000100001, {}⟩ = .ok (.ccbCodes (.lit [])) ∧
    decode ⟨.cmd, 0b0000000000100010, {}⟩ = .ok (.ccbRle []) ∧
    decode ⟨.cmd, 0b0000000000101000, {}⟩ = .ok (.encStored) ∧
    decode ⟨.cmd, 0b0000000100101000, {}⟩ = .ok (.encFixed) ∧
    decode ⟨.cmd, 0b0000001000101000, {}⟩ = .ok (.encDynamic) ∧
    decode ⟨.cmd, 0b0000000000110000, {}⟩ = .ok (.decBlock) ∧
    decode ⟨.cmd, 0b0000000100110000, {}⟩ = .ok (.decAdaptive) ∧
    decode ⟨.cmd, 0b0000000000111000, {}⟩ = .ok (.sdecInit) ∧
    decode ⟨.cmd, 0b0000000000111001, {}⟩ = .ok (.sdecCall none none) ∧
    decode ⟨.cmd, 0b0000000000111010, {}⟩ = .ok (.rdConsumed) := by decide

theorem test_decode_blockHeaders :
    decode ⟨.blkHdr, 0b000, {}⟩ = .ok (.blockStored false) ∧
    decode ⟨.blkHdr, 0b011, {}⟩ = .ok (.blockFixed true) ∧
    decode ⟨.blkHdr, 0b100, {}⟩ = .ok (.blockDynamic false) ∧
    decode ⟨.blkHdr, 0b111, {}⟩ = .ok (.blockReserved true) := by decide

theorem test_decode_litLen :
    decode ⟨.litLen, 0b001100001, {}⟩ = .ok (.lit 97) ∧
    decode ⟨.litLen, 0b100000000, {}⟩ = .ok (.eob) ∧
    decode ⟨.litLen, 0b100000001, {}⟩ = .ok (.len257) ∧
    decode ⟨.litLen, 0b100000010, {}⟩ = .ok (.len258) ∧
    decode ⟨.litLen, 0b100000011, {}⟩ = .ok (.len259) ∧
    decode ⟨.litLen, 0b100000100, {}⟩ = .ok (.len260) ∧
    decode ⟨.litLen, 0b100000101, {}⟩ = .ok (.len261) ∧
    decode ⟨.litLen, 0b100000110, {}⟩ = .ok (.len262) ∧
    decode ⟨.litLen, 0b100000111, {}⟩ = .ok (.len263) ∧
    decode ⟨.litLen, 0b100001000, {}⟩ = .ok (.len264) ∧
    decode ⟨.litLen, 0b1_100001001, {}⟩ = .ok (.len265 1) ∧
    decode ⟨.litLen, 0b1_100001010, {}⟩ = .ok (.len266 1) ∧
    decode ⟨.litLen, 0b1_100001011, {}⟩ = .ok (.len267 1) ∧
    decode ⟨.litLen, 0b1_100001100, {}⟩ = .ok (.len268 1) ∧
    decode ⟨.litLen, 0b11_100001101, {}⟩ = .ok (.len269 3) ∧
    decode ⟨.litLen, 0b11_100001110, {}⟩ = .ok (.len270 3) ∧
    decode ⟨.litLen, 0b11_100001111, {}⟩ = .ok (.len271 3) := by decide

theorem test_decode_litLen_more :
    decode ⟨.litLen, 0b11_100010000, {}⟩ = .ok (.len272 3) ∧
    decode ⟨.litLen, 0b111_100010001, {}⟩ = .ok (.len273 7) ∧
    decode ⟨.litLen, 0b111_100010010, {}⟩ = .ok (.len274 7) ∧
    decode ⟨.litLen, 0b111_100010011, {}⟩ = .ok (.len275 7) ∧
    decode ⟨.litLen, 0b111_100010100, {}⟩ = .ok (.len276 7) ∧
    decode ⟨.litLen, 0b1111_100010101, {}⟩ = .ok (.len277 15) ∧
    decode ⟨.litLen, 0b1111_100010110, {}⟩ = .ok (.len278 15) ∧
    decode ⟨.litLen, 0b1111_100010111, {}⟩ = .ok (.len279 15) ∧
    decode ⟨.litLen, 0b1111_100011000, {}⟩ = .ok (.len280 15) ∧
    decode ⟨.litLen, 0b11111_100011001, {}⟩ = .ok (.len281 31) ∧
    decode ⟨.litLen, 0b11111_100011010, {}⟩ = .ok (.len282 31) ∧
    decode ⟨.litLen, 0b11111_100011011, {}⟩ = .ok (.len283 31) ∧
    decode ⟨.litLen, 0b11111_100011100, {}⟩ = .ok (.len284 31) ∧
    decode ⟨.litLen, 0b100011101, {}⟩ = .ok (.len285) ∧
    decode ⟨.litLen, 0b100011110, {}⟩ = .ok (.llInvalid286) ∧
    decode ⟨.litLen, 0b100011111, {}⟩ = .ok (.llInvalid287) := by decide

theorem test_decode_dist :
    decode ⟨.dist, 0b00000, {}⟩ = .ok (.dist0) ∧
    decode ⟨.dist, 0b00001, {}⟩ = .ok (.dist1) ∧
    decode ⟨.dist, 0b00010, {}⟩ = .ok (.dist2) ∧
    decode ⟨.dist, 0b00011, {}⟩ = .ok (.dist3) ∧
    decode ⟨.dist, 0b1_00100, {}⟩ = .ok (.dist4 1) ∧
    decode ⟨.dist, 0b1_00101, {}⟩ = .ok (.dist5 1) ∧
    decode ⟨.dist, 0b11_00110, {}⟩ = .ok (.dist6 3) ∧
    decode ⟨.dist, 0b11_00111, {}⟩ = .ok (.dist7 3) ∧
    decode ⟨.dist, 0b111_01000, {}⟩ = .ok (.dist8 7) ∧
    decode ⟨.dist, 0b111_01001, {}⟩ = .ok (.dist9 7) ∧
    decode ⟨.dist, 0b1111_01010, {}⟩ = .ok (.dist10 15) ∧
    decode ⟨.dist, 0b1111_01011, {}⟩ = .ok (.dist11 15) ∧
    decode ⟨.dist, 0b11111_01100, {}⟩ = .ok (.dist12 31) ∧
    decode ⟨.dist, 0b11111_01101, {}⟩ = .ok (.dist13 31) ∧
    decode ⟨.dist, 0b111111_01110, {}⟩ = .ok (.dist14 63) ∧
    decode ⟨.dist, 0b111111_01111, {}⟩ = .ok (.dist15 63) := by decide

theorem test_decode_dist_more :
    decode ⟨.dist, 0b1111111_10000, {}⟩ = .ok (.dist16 127) ∧
    decode ⟨.dist, 0b1111111_10001, {}⟩ = .ok (.dist17 127) ∧
    decode ⟨.dist, 0b11111111_10010, {}⟩ = .ok (.dist18 255) ∧
    decode ⟨.dist, 0b11111111_10011, {}⟩ = .ok (.dist19 255) ∧
    decode ⟨.dist, 0b111111111_10100, {}⟩ = .ok (.dist20 511) ∧
    decode ⟨.dist, 0b111111111_10101, {}⟩ = .ok (.dist21 511) ∧
    decode ⟨.dist, 0b1111111111_10110, {}⟩ = .ok (.dist22 1023) ∧
    decode ⟨.dist, 0b1111111111_10111, {}⟩ = .ok (.dist23 1023) ∧
    decode ⟨.dist, 0b11111111111_11000, {}⟩ = .ok (.dist24 2047) ∧
    decode ⟨.dist, 0b11111111111_11001, {}⟩ = .ok (.dist25 2047) ∧
    decode ⟨.dist, 0b111111111111_11010, {}⟩ = .ok (.dist26 4095) ∧
    decode ⟨.dist, 0b111111111111_11011, {}⟩ = .ok (.dist27 4095) ∧
    decode ⟨.dist, 0b1111111111111_11100, {}⟩ = .ok (.dist28 8191) ∧
    decode ⟨.dist, 0b1111111111111_11101, {}⟩ = .ok (.dist29 8191) ∧
    decode ⟨.dist, 0b11110, {}⟩ = .ok (.distInvalid30) ∧
    decode ⟨.dist, 0b11111, {}⟩ = .ok (.distInvalid31) := by decide

theorem test_decode_clSym :
    decode ⟨.clSym, 0b00000, {}⟩ = .ok (.cl0) ∧
    decode ⟨.clSym, 0b00001, {}⟩ = .ok (.cl1) ∧
    decode ⟨.clSym, 0b00010, {}⟩ = .ok (.cl2) ∧
    decode ⟨.clSym, 0b00011, {}⟩ = .ok (.cl3) ∧
    decode ⟨.clSym, 0b00100, {}⟩ = .ok (.cl4) ∧
    decode ⟨.clSym, 0b00101, {}⟩ = .ok (.cl5) ∧
    decode ⟨.clSym, 0b00110, {}⟩ = .ok (.cl6) ∧
    decode ⟨.clSym, 0b00111, {}⟩ = .ok (.cl7) ∧
    decode ⟨.clSym, 0b01000, {}⟩ = .ok (.cl8) ∧
    decode ⟨.clSym, 0b01001, {}⟩ = .ok (.cl9) ∧
    decode ⟨.clSym, 0b01010, {}⟩ = .ok (.cl10) ∧
    decode ⟨.clSym, 0b01011, {}⟩ = .ok (.cl11) ∧
    decode ⟨.clSym, 0b01100, {}⟩ = .ok (.cl12) ∧
    decode ⟨.clSym, 0b01101, {}⟩ = .ok (.cl13) ∧
    decode ⟨.clSym, 0b01110, {}⟩ = .ok (.cl14) ∧
    decode ⟨.clSym, 0b01111, {}⟩ = .ok (.cl15) ∧
    decode ⟨.clSym, 0b11_10000, {}⟩ = .ok (.cl16 3) ∧
    decode ⟨.clSym, 0b111_10001, {}⟩ = .ok (.cl17 7) ∧
    decode ⟨.clSym, 0b1111111_10010, {}⟩ = .ok (.cl18 127) := by decide

theorem test_decode_stored :
    decode ⟨.stored, 0b1111111111111100_0000000000000011, {}⟩ = .ok (.storedHdr 3 0xFFFC) := by decide

theorem test_decode_dynHdr :
    decode ⟨.dynHdr, 0b0111_00001_11101, {}⟩ = .ok (.dynHdr 29 1 7) := by decide

theorem test_decode_token :
    decode ⟨.token, 0b0000000011111111, {}⟩ = .ok (.tLit 255) ∧
    decode ⟨.token, 0b0000000100000000, {}⟩ = .ok (.tEob) ∧
    decode ⟨.token, 0b0001111111111111_0000000000001101_0000000000011101_0000000000000011_0000000000000010_0000000100001101, {}⟩ = .ok (.tMatch 13 2 3 29 13 8191) := by decide

theorem test_decode_dte :
    decode ⟨.dte, 0b0000000000001000_0000000001100001, {}⟩ = .ok (.dte 8 97) := by decide

/-- R130, R131, R135: words that are no command; R133: symbols that do not exist; R123: a slot 0 that begins no token. -/
theorem test_decode_rejects :
    decode ⟨.cmd, 0x0004, {}⟩ = .error (.unknownOperation 4) ∧ decode ⟨.cmd, 0x0328, {}⟩ = .error (.badSelector 0x28 3) ∧
    decode ⟨.cmd, 0x0230, {}⟩ = .error (.badSelector 0x30 2) ∧ decode ⟨.clSym, 19, {}⟩ = .error (.noSuchSymbol 19) ∧
    decode ⟨.litLen, 288, {}⟩ = .error (.noSuchSymbol 288) ∧ decode ⟨.token, 512, {}⟩ = .error (.badToken 512) := by decide

/-- The operands beside a command word reach their instruction (R130). -/
theorem test_decode_operands :
    decode ⟨.cmd, 0x0002, { value := 6, n := 3, reversed := true }⟩ = .ok (.bwWrite 6 3 true) ∧
    decode ⟨.cmd, 0x0020, { source := .reg .dist, limit := 7 }⟩ = .ok (.ccbLengths (.reg .dist) 7) ∧
    decode ⟨.cmd, 0x0039, { chunk := some [0x4B], startOffset := some 2 }⟩ = .ok (.sdecCall (some [0x4B]) (some 2)) := by
  decide

/-! ## Bit level (40_bitio.md, V-BW, V-BR) -/

/-- V-BW-11: the cursor begins at CFG.outputOffset and the caller's bytes are in OUT. -/
theorem test_bwInit :
    (let s := { State.reset with cfg := { State.reset.cfg with outputBuffer := some (bytes [0xAA, 0xBB, 0xCC]), outputOffset := 2 } }
     ((stateOf (exec .bwInit s)).bw.byteIndex, (stateOf (exec .bwInit s)).bw.out.read 2)) = (2, some 0xCC) := by decide

/-- R142's example: after W = 1,1,0 the code 0x89 makes W = 1,1,0,1,0,0,1,0,0,0,1. -/
theorem test_bwWrite :
    (let w := (stateOf (exec (.bwWrite 0x89 8 true) (writing 0b110 3))).bw
     (w.out, w.byteIndex, w.bitIndex, w.current)) = ([(0, 0x4B)], 1, 3, 0b001) := by decide

/-- V-BW-7: most significant bit first; V-BW-8, V-BW-9, V-BW-10: the faults. -/
theorem test_bwWrite_edges :
    (stateOf (exec (.bwWrite 0x12345678 32 false) (writing 0 0))).bw.out = [(0, 0x48), (1, 0x2C), (2, 0x6A), (3, 0x1E)] ∧
    seen (exec (.bwWrite 4 2 true) (writing 0 0)) = (.failed .eApi 2, some .eApi, 2, false, false) ∧
    seen (exec (.bwWrite 0 33 true) (writing 0 0)) = (.failed .eApi 33, some .eApi, 33, false, false) ∧
    seen (exec (.bwWrite 0 1 true) State.reset) = (.failed .eApi 1, some .eApi, 1, false, false) := by decide

/-- R144's example: W = 1,1,0 is the byte 0x03; a closed writer is E_API. -/
theorem test_bwFinish :
    (stateOf (exec .bwFinish (writing 0b110 3))).result = .bytes [0x03] ∧
    (stateOf (exec .bwFinish State.reset)).status.fault = some .eApi := by decide

/-- V-BR-14, V-BR-13: an offset equal to the length is legal, one beyond it is not. -/
theorem test_brInit :
    (stateOf (exec .brInit { withIn [0xA5, 0x3C] with cfg := { State.reset.cfg with startOffset := 2 } })).br.pos = 16 ∧
    seen (exec .brInit { withIn [0xA5, 0x3C] with cfg := { State.reset.cfg with startOffset := 3 } }) =
      (.failed .eApi 3, some .eApi, 3, false, false) := by decide

/-- V-BR-1: three bits of A5 3C are 5; V-BR-11. -/
theorem test_brRead :
    (let t := stateOf (exec (.brRead 3) (reading [0xA5, 0x3C] 0)); (t.result, t.br.pos)) = (.value 5, 3) ∧
    seen (exec (.brRead 17) (reading [0xA5, 0x3C] 0)) = (.failed .eApi 17, some .eApi, 17, false, false) := by decide

/-- V-BR-3: sixteen bits are not there at BR.P = 8: EXHAUSTED, BR.P stays. -/
theorem test_brRead_exhausted :
    (let t := stateOf (exec (.brRead 16) (reading [0xA5, 0x3C] 8))
     (t.result, t.br.pos, t.status.needInput, t.status.fault)) = (.exhausted, 8, true, none) := by decide

/-- The table of V-HTB-1. -/
def tableT : DecodeTable :=
  { table := [0x10001, 0x20000, 0x10001, 0x30002, 0x10001, 0x20000, 0x10001, 0x30003], maxLen := 3, minLen := 1 }

/-- V-BR-15: the first symbol of 39 through T. -/
theorem test_brDecode :
    (let t := stateOf (exec (.brDecode tableT) { reading [0x39] 0 with built := [tableT] })
     (t.result, t.br.pos)) = (.symbol 0, 2) := by decide +kernel

/-- V-BR-18: an unfilled slot is E_CODE with its index; R380: a table HTB.BUILD has not made is E_API. -/
theorem test_brDecode_faults :
    (let tb : DecodeTable := { table := [0x20000, 0x20002, 0x20001, 0], maxLen := 2, minLen := 2 }
     ((stateOf (exec (.brDecode tb) { reading [3] 0 with built := [tb] })).status.fault,
      (stateOf (exec (.brDecode tb) { reading [3] 0 with built := [tb] })).status.faultInfo,
      (stateOf (exec (.brDecode tb) (reading [3] 0))).status.fault)) = (some .eCode, 3, some .eApi) := by decide +kernel

/-- V-BR-7: from BR.P = 3 the next byte begins at 8. -/
theorem test_brAlign : (stateOf (exec .brAlign (reading [0xA5, 0x3C] 3))).br.pos = 8 := by decide

/-- R151's example: at BR.P = 5 it records the cursor. -/
theorem test_brSave :
    (stateOf (exec .brSave (reading [0xA5, 0x3C] 5))).br.save = { ip := 1, acc := 5, acclen := 3 } := by decide

/-- V-BR-9, V-BR-10. -/
theorem test_brRestore :
    (let s := reading [0xA5, 0x3C] 8
     (stateOf (exec .brRestore { s with br := { s.br with save := { ip := 0, acc := 0, acclen := 0 }, saved := true } })).br.pos) = 0 ∧
    (stateOf (exec .brRestore State.reset)).status.fault = some .eApi := by decide

/-! ## Tables, matcher, code builder (V-HTB, V-LZ, V-CCB) -/

/-- V-HTB-1, V-HTB-6. -/
theorem test_htbBuild :
    (stateOf (exec (.htbBuild (.lit [2, 1, 3, 3])) State.reset)).result = .table tableT ∧
    seen (exec (.htbBuild (.lit [1, 1, 1])) State.reset) = (.failed .eCode 2, some .eCode, 2, false, false) := by
  decide +kernel

/-- V-HTB-8, V-HTB-9: slots of the fixed tables. -/
theorem test_fixedTables :
    ([0x000, 0x003, 0x00C, 0x089, 0x189, 0x013, 0x1FF].map fun j => fixedLitLenTable.table.getD j 0) =
      [0x70100, 0x80118, 0x80000, 0x80061, 0x80061, 0x90090, 0x900FF] ∧
    ([0, 0x10, 0x17, 15, 31].map fun j => fixedDistTable.table.getD j 0) = [0x50000, 0x50001, 0x5001D, 0, 0] := by
  decide +kernel

/-- V-LZ-8a: a deferred match gives way to a longer one; V-LZ-5: an overlapping match. -/
theorem test_lzmRun :
    (matchRun (bytes [97, 98, 99, 98, 99, 100, 101, 97, 98, 99, 100, 101]) 4 State.reset.lzm).tok =
      [97, 98, 99, 98, 99, 100, 101, 97, 258, 0, 0, 4, 1, 0, 256] ∧
    (stateOf (exec .lzmRun (withIn (List.replicate 10 97)))).tok = [97, 263, 0, 0, 0, 0, 0, 256] := by decide +kernel

/-- V-CCB-1, V-CCB-10. -/
theorem test_ccbLengths :
    (stateOf (exec (.ccbLengths (.lit [5, 1, 1, 2, 0, 8]) 3) State.reset)).result = .lengths [3, 3, 3, 3, 0, 1] ∧
    seen (exec (.ccbLengths (.lit (List.replicate 9 1)) 3) State.reset) = (.failed .eApi 9, some .eApi, 9, false, false) := by
  decide +kernel

/-- V-CCB-11, V-CCB-13. -/
theorem test_ccbCodes :
    (stateOf (exec (.ccbCodes (.lit [3, 3, 3, 3, 0, 1])) State.reset)).result = .codes [1, 5, 3, 7, 0, 0] ∧
    (stateOf (exec (.ccbCodes (.lit [1, 1, 1])) State.reset)).status.fault = some .eApi := by decide +kernel

/-- R210 bounds no N: a complete code of 512 symbols of length 9; symbol 511 gets the code of nine ones. -/
theorem test_ccbCodes_anyLength :
    (ccbCodes (List.replicate 512 9)).map (·.getD 511 0) = some 511 ∧
    (stateOf (exec (.ccbCodes (.lit (List.replicate 512 9))) State.reset)).status.fault = none := by decide +kernel

/-- V-CCB-22: 7 × 7 then 140 × 0; V-CCB-15: 8 × 8. -/
theorem test_ccbRle :
    (stateOf (exec (.ccbRle (List.replicate 7 7 ++ List.replicate 140 0)) State.reset)).rle =
      [⟨7, 0, 0⟩, ⟨16, 2, 3⟩, ⟨18, 7, 124⟩, ⟨17, 3, 2⟩] ∧
    (stateOf (exec (.ccbRle (List.replicate 8 8)) State.reset)).rle = [⟨8, 0, 0⟩, ⟨16, 2, 0⟩, ⟨16, 2, 1⟩] := by decide +kernel

/-! ## Encoder and tokens (V-ENC) -/

/-- V-ENC-2. -/
theorem test_encStored :
    (stateOf (exec .encStored (withIn [0x61, 0x62, 0x63]))).result =
      .bytes (bytes [0x01, 0x03, 0x00, 0xFC, 0xFF, 0x61, 0x62, 0x63]) := by decide +kernel

/-- V-ENC-7. -/
theorem test_encFixed :
    (stateOf (exec .encFixed (withIn (List.replicate 10 0x61)))).result = .bytes (bytes [0x4B, 0x84, 0x03, 0x00]) := by
  decide +kernel

/-- V-ENC-9. -/
theorem test_encDynamic :
    (stateOf (exec .encDynamic (withIn [0x61]))).result =
      .bytes (bytes [0x05, 0xC0, 0x81, 0x08, 0x00, 0x00, 0x00, 0x00, 0x20, 0xD6, 0xFD, 0x25, 0x4E]) := by decide +kernel

/-- Small code tables: symbols 97, 256, 257 and 285, distances 0 and 29, one or two bits each. -/
def packing : State :=
  { writing 0 0 with
    seq := .pack
    lenLL := .of ((List.replicate 286 0).set 97 2 |>.set 256 2 |>.set 257 2 |>.set 285 2)
    codeLL := .of ((List.replicate 286 0).set 97 0 |>.set 256 2 |>.set 257 1 |>.set 285 3)
    lenD := .of ((List.replicate 30 0).set 0 1 |>.set 29 1), codeD := .of ((List.replicate 30 0).set 29 1) }

/-- R235: the code of a literal, stored reversed, goes in MSB-first: 2 (10b) is the stream bits 0,1. -/
theorem test_tLit :
    (let t := stateOf (exec (.tLit 97) packing); (t.bw.bitIndex, t.bw.current, t.enc.tokIndex)) = (2, 0b00, 1) ∧
    seen (exec (.tLit 98) packing) = (.failed .eApi 98, some .eApi, 98, false, false) := by decide +kernel

/-- R235: code, extra field, distance code, extra field: 1 | - | 1 | 13 bits of 8191. -/
theorem test_tMatch :
    (let t := stateOf (exec (.tMatch 1 0 0 29 13 8191) packing); (t.bw.out, t.enc.tokIndex)) =
      ([(0, 0b11111101), (1, 0xFF)], 6) ∧
    seen (exec (.tMatch 1 1 0 29 13 8191) packing) = (.failed .eApi 257, some .eApi, 257, false, false) := by decide +kernel

/-- R235, R231: the end marker's code 01 and six zero bits. -/
theorem test_tEob :
    seen (exec .tEob packing) = (.bytes [0b00000010], none, 0, true, false) := by decide +kernel

/-! ## Decoder (V-DEC) and its elements -/

/-- V-DEC-4 and V-DEC-38: under the Fixed-window strategy the ceiling does not apply. -/
theorem test_decBlock :
    (let s := withIn [0x4B, 0x84, 0x03, 0x00]
     (stateOf (exec .decBlock { s with params := { s.params with maxOutputBytes := some 5 } })).result) =
      .bytes (List.replicate 10 0x61) := by decide +kernel

/-- V-DEC-37; V-DEC-20. -/
theorem test_decAdaptive :
    (let s := withIn [0x4B, 0x84, 0x03, 0x00]
     seen (exec .decAdaptive { s with params := { s.params with maxOutputBytes := some 5 } })) =
      (.failed .eOverflow 5, some .eOverflow, 5, false, false) ∧
    seen (exec .decAdaptive (withIn [0x07])) = (.failed .eBtype 3, some .eBtype, 3, false, false) := by decide +kernel

/-- V-DEC-21: the header 06 is the reserved type; R261: fixed and dynamic headers. -/
theorem test_blockHeaders :
    (let s := decoding .block .blkHdr (reading [0x06] 3)
     ((stateOf (exec (.blockReserved false) s)).status.faultInfo, (stateOf (exec (.blockFixed true) s)).seq,
      (stateOf (exec (.blockFixed true) s)).dec.bfinal, (stateOf (exec (.blockDynamic false) s)).dec.btype,
      (stateOf (exec (.blockStored false) s)).seq)) =
      (3, .decode .block .litLen, true, .dynamic, .decode .block .stored) := by decide +kernel

/-- R263, R264: LEN 2 copies two bytes; V-DEC-22: a wrong NLEN. -/
theorem test_storedHdr :
    (let s := decoding .adaptive .stored (reading [0x61, 0x62, 0x63] 0)
     ((stateOf (exec (.storedHdr 2 0xFFFD) s)).dec.out, (stateOf (exec (.storedHdr 2 0xFFFD) s)).br.pos,
      (stateOf (exec (.storedHdr 3 0xFEFC) s)).status.fault, (stateOf (exec (.storedHdr 4 0xFFFB) s)).status.fault)) =
      ([0x61, 0x62], 16, some .eLenVerify, some .eTruncated) := by decide +kernel

/-- V-DEC-31, V-DEC-32: counts out of range; V-DEC-33: CLLEN 1 0 0 1 gives symbols 0 and 16 one bit each. -/
theorem test_dynHdr :
    (let s := decoding .block .dynHdr (reading [0x01, 0x02] 0)
     ((stateOf (exec (.dynHdr 30 0 0) s)).status.faultInfo, (stateOf (exec (.dynHdr 0 30 0) s)).status.faultInfo,
      (stateOf (exec (.dynHdr 0 0 0) s)).dec.cl.table, (stateOf (exec (.dynHdr 0 0 0) s)).dec.hdr.hlit)) =
      (287, 31, [0x10000, 0x10010], 257) := by decide +kernel

/-- A dynamic header of 258 lengths with these read so far. -/
def header (lens : List Nat) : State :=
  { decoding .block .clSym State.reset with dec := { State.reset.dec with hdr := { hlit := 257, hdist := 1, lens := lens } } }

/-- R96, R271: what each code-length symbol appends. -/
theorem test_clSymbols :
    ([Instr.cl0, .cl1, .cl2, .cl3, .cl4, .cl5, .cl6, .cl7, .cl8, .cl9, .cl10, .cl11, .cl12, .cl13, .cl14, .cl15].map
      fun i => (stateOf (exec i (header [9]))).dec.hdr.lens) = (List.range 16).map (fun v => [9, v]) ∧
    (stateOf (exec (.cl16 3) (header [9]))).dec.hdr.lens = List.replicate 7 9 ∧
    (stateOf (exec (.cl17 7) (header [9]))).dec.hdr.lens = 9 :: List.replicate 10 0 ∧
    (stateOf (exec (.cl18 127) (header [9]))).dec.hdr.lens = 9 :: List.replicate 138 0 := by decide +kernel

/-- V-DEC-33, V-DEC-35: a 16 with nothing before it, a repeat past the total; V-DEC-36: 258 zeros are two empty tables. -/
theorem test_clSymbols_end :
    seen (exec (.cl16 0) (header [])) = (.failed .eHeader 16, some .eHeader, 16, false, false) ∧
    seen (exec (.cl18 127) (header (List.replicate 138 0))) = (.failed .eHeader 138, some .eHeader, 138, false, false) ∧
    (let t := stateOf (exec (.cl18 109) (header (List.replicate 138 0)))
     (t.dec.ll.table, t.dec.d.maxLen, t.seq)) = ([0], 0, .decode .block .litLen) := by decide +kernel

/-- O holds "ab", a match of five bytes is being read. -/
def copying : State :=
  { decoding .block .litLen State.reset with dec := { State.reset.dec with out := [0x61, 0x62], matchLen := 5 } }

/-- R273: a literal; an end of a block that is not final. -/
theorem test_lit_eob :
    (stateOf (exec (.lit 99) copying)).dec.out = [0x61, 0x62, 0x63] ∧
    (stateOf (exec .eob copying)).seq = .decode .block .blkHdr := by decide +kernel

/-- R105: the largest length of each symbol. -/
theorem test_lengthSymbols :
    ([Instr.len257, .len258, .len259, .len260, .len261, .len262, .len263, .len264, .len265 1, .len266 1, .len267 1, .len268 1,
      .len269 3, .len270 3, .len271 3, .len272 3, .len273 7, .len274 7, .len275 7, .len276 7, .len277 15, .len278 15,
      .len279 15, .len280 15, .len281 31, .len282 31, .len283 31, .len284 31, .len285].map
      fun i => (stateOf (exec i copying)).dec.matchLen) =
      [3, 4, 5, 6, 7, 8, 9, 10, 12, 14, 16, 18, 22, 26, 30, 34, 42, 50, 58, 66, 82, 98, 114, 130, 162, 194, 226, 258, 258] := by
  decide +kernel

/-- R276's example: "ab", Copy(5, 2) gives "abababa"; R275: distance 3 is beyond the output. -/
theorem test_distance_copy :
    (stateOf (exec .dist1 copying)).dec.out = bytes [0x61, 0x62, 0x61, 0x62, 0x61, 0x62, 0x61] ∧
    seen (exec .dist2 copying) = (.failed .eDistance 3, some .eDistance, 3, false, false) := by decide +kernel

/-- R106: the largest distance of each symbol, seen as the faultInfo of E_DISTANCE with no output yet (R275). -/
theorem test_distanceSymbols :
    ([Instr.dist0, .dist1, .dist2, .dist3, .dist4 1, .dist5 1, .dist6 3, .dist7 3, .dist8 7, .dist9 7, .dist10 15, .dist11 15,
      .dist12 31, .dist13 31, .dist14 63, .dist15 63, .dist16 127, .dist17 127, .dist18 255, .dist19 255, .dist20 511,
      .dist21 511, .dist22 1023, .dist23 1023, .dist24 2047, .dist25 2047, .dist26 4095, .dist27 4095, .dist28 8191,
      .dist29 8191].map fun i => (stateOf (exec i (decoding .block .dist State.reset))).status.faultInfo) =
      [1, 2, 3, 4, 6, 8, 12, 16, 24, 32, 48, 64, 96, 128, 192, 256, 384, 512, 768, 1024, 1536, 2048, 3072, 4096, 6144, 8192,
        12288, 16384, 24576, 32768] := by decide +kernel

/-- R133, R274, V-DEC-26: 286, 287 and the fixed distance patterns 30 and 31. -/
theorem test_invalidSymbols :
    ([Instr.llInvalid286, .llInvalid287, .distInvalid30, .distInvalid31].map fun i =>
      ((stateOf (exec i State.reset)).status.fault, (stateOf (exec i State.reset)).status.faultInfo)) =
      [(some .eSymbol, 286), (some .eSymbol, 287), (some .eCode, 15), (some .eCode, 31)] := by decide +kernel

/-- R149: an entry of length 2 is consumed. -/
theorem test_dte :
    (let t := stateOf (exec (.dte 2 0) { reading [0x39] 0 with seq := .lookup 1 3 0x20000 })
     (t.result, t.br.pos, t.seq)) = (.symbol 0, 2, .idle) := by decide

/-! ## Streaming decoder, system (V-SDEC) -/

/-- R300: a new stream. -/
theorem test_sdecInit :
    (let t := stateOf (exec .sdecInit (reading [0x39] 0)); (t.inMem, t.br.ip, t.br.inputLength, t.sdec.state)) =
      ([], 0, 0, .initialized) := by decide

/-- R301: the stream's input is its chunks, not what stands in IN for LZM.RUN (03 00 is an empty fixed block). -/
theorem test_sdecCall_chunksAlone :
    seen (exec (.sdecCall (some (bytes [0x03, 0x00])) none) (withIn [0x07, 0x61])) = (.bytes [], none, 0, true, false) := by
  decide +kernel

/-- V-SDEC-2, call 1: 4B 84 returns 61, BR.P = 11, waiting; V-SDEC-12. -/
theorem test_sdecCall :
    (let t := stateOf (exec (.sdecCall (some [0x4B, 0x84]) none) State.reset)
     (t.result, t.br.pos, t.sdec.state, t.status.needInput, t.status.done)) =
      (.bytes [0x61], 11, .decodeBlockStart, true, false) ∧
    seen (exec (.sdecCall (some [0x4B]) (some 2)) State.reset) = (.failed .eApi 2, some .eApi, 2, false, false) := by
  decide +kernel

/-- R315: after V-BR-1, one byte. -/
theorem test_rdConsumed : (stateOf (exec .rdConsumed (reading [0xA5, 0x3C] 3))).result = .consumed 1 := by decide

/-- R370: RESET clears a fault and the input. -/
theorem test_reset :
    (let t := stateOf (exec .reset { faulted with inMem := [(0, 1)] }); (t.status.fault, t.status.faultInfo, t.inMem)) =
      (none, 0, []) := by decide

/-- R376, P1: the host's word, its input and its configuration are taken in one step; R135: a bad selector. -/
theorem test_step :
    (let it : Issue := { issue 0x0028 with input := some [0x61] }
     (stateOf (step { State.reset with port := [it] })).result) =
      .bytes (bytes [0x01, 0x01, 0x00, 0xFE, 0xFF, 0x61]) ∧
    seen (step { State.reset with port := [issue 0x0328] }) = (.failed .eApi 3, some .eApi, 3, false, false) := by
  decide +kernel

/-- The instruction placed is the instruction that runs, one word of each format. -/
theorem test_withFetchWord :
    (stateOf (step (State.reset.withFetchWord 16 0x0001))).bw.isOpen = true ∧
    (stateOf (step (State.reset.withFetchWord 16 97))).dec.out = [97] ∧
    (stateOf (step (State.reset.withFetchWord 32 0x00080061))).result = .exhausted ∧
    (stateOf (step (State.reset.withFetchWord 32 0xFFFC0003))).status.fault = some .eTruncated ∧
    (stateOf (step (State.reset.withFetchWord 96 257))).status.fault = some .eApi := by decide +kernel

/-! ## Witnesses: states and operands that meet the hypotheses of each statement, clause by clause -/

theorem reading_stands : ((reading [0xA5, 0x3C] 3).Reading ∧ (reading [0xA5, 0x3C] 8).Reading) := by
  constructor <;> exact ⟨rfl, by decide, by decide, by decide, by decide, by decide, by decide⟩

theorem reset_fresh : State.reset.FreshStream := ⟨rfl, rfl, rfl, rfl, ⟨rfl, rfl⟩, ⟨rfl, rfl, rfl, rfl⟩, ⟨rfl, rfl, rfl, rfl⟩⟩

theorem writing_bounded : (writing 0b1111111 7).bw.bounded ∧ (writing 0b1111111 7).bw.isOpen = true := by
  refine ⟨⟨by decide, by decide⟩, rfl⟩

/-- No fault, idle, command grain: the hypotheses of BwInitOpensTheWriter, BrSaveRecordsTheCursor, LzmRunEndsWithTheMarker,
SdecInitBeginsAStream (its refusal: `faulted`), SdecCallNeverTruncates and SdecCallDeliversWhatIsNew (with
`witness_streamingCalls`). -/
theorem witness_unfaulted :
    State.reset.status.fault = none ∧ State.reset.seq = .idle ∧ State.reset.grain = .command ∧
    State.reset.status.done = false ∧ faulted.status.fault = some .eCode := by decide

theorem witness_CommandsAreRefusedWhileFaulted :
    faulted.status.fault = some .eCode ∧ (encode .brSave).format = .cmd ∧ Instr.brSave ≠ .reset ∧
    Instr.brSave ≠ .rdConsumed ∧ faulted.seq = .idle ∧ step faulted = .next faulted ∧
    (∃ t, step { faulted with port := [issue 0x0000] } = .next t) := ⟨rfl, rfl, by decide, by decide, rfl, rfl, _, rfl⟩

theorem witness_EveryFaultIsTakenAsOneEntry :
    ∃ t, ({ State.reset with port := [issue 0x0003] } : State).status.fault = none ∧
      step { State.reset with port := [issue 0x0003] } = .next t ∧ t.status.fault = some .eApi := ⟨_, rfl, rfl, rfl⟩

theorem witness_StepRunsTheDecodedInstruction :
    (State.reset.seq = .idle ∧ State.reset.port = []) ∧
    decode { format := .cmd, word := (issue 0x000B).word.toNat, ops := (issue 0x000B).ops } = .ok .brAlign ∧
    ((issue 0x000B).cfg = none ∧ (issue 0x000B).input = none) ∧
    (({ issue 0x0028 with cfg := some State.reset.cfg } : Issue).cfg ≠ none ∧
      ({ issue 0x0028 with cfg := some State.reset.cfg } : Issue).input = none) ∧
    ({ issue 0x0028 with input := some [0x61] } : Issue).input = some [0x61] ∧
    (∃ r t, (packing.seq ≠ .idle ∧ fetchElement { packing with tok := [97] } = .ok (r, t) ∧ decode r = .ok (.tLit 97))) ∧
    (∃ t, fetchElement (decoding .stream .blkHdr State.reset) = .error t) :=
  ⟨⟨rfl, rfl⟩, rfl, ⟨rfl, rfl⟩, ⟨by decide, rfl⟩, rfl, ⟨_, _, by decide, rfl, rfl⟩, ⟨_, rfl⟩⟩

/-- The fetches of the same statement: enough bits for each element, at the least number of them; a symbol through a table;
the two unassigned fixed distance patterns; tokens of one and of six slots. -/
theorem witness_StepRunsTheDecodedInstruction_fetch :
    ((reading [0xA5] 5).avail = 3 ∧ (reading [0xA5, 1, 2, 3, 4] 3).avail = 5 + 32 ∧ (reading [0xA5, 0x3C] 2).avail = 14) ∧
    ((reading [0xA5] 5).Reading ∧ (reading [0xA5, 1, 2, 3, 4] 3).Reading ∧ (reading [0xA5, 0x3C] 2).Reading) ∧
    (let s := reading [0xA5] 5
     let e := tableT.table.getD (s.inMem.field s.br.pos (min tableT.maxLen s.avail)) 0
     tableT.maxLen ≤ 15 ∧ entryLength e ≠ 0 ∧ entryLength e ≤ tableT.maxLen ∧ entryLength e + 0 ≤ s.avail) ∧
    ((reading [0x0F] 0).inMem.field 0 5 = 15 ∧ (reading [0x1F] 0).inMem.field 0 5 = 31 ∧ 5 ≤ (reading [0x1F] 0).avail) ∧
    (packing.seq = .pack ∧ ({ packing with tok := [256] } : State).tok.drop 0 = 256 :: [] ∧
      ({ packing with tok := [285, 0, 0, 29, 13, 8191] } : State).tok.drop 0 = 285 :: [0, 0, 29, 13, 8191]) ∧
    ({ State.reset with seq := .lookup 1 3 0x50000 } : State).seq = .lookup 1 3 0x50000 := by
  refine ⟨by decide, ⟨?_, ?_, ?_⟩, by decide +kernel, by decide, ⟨rfl, rfl, rfl⟩, rfl⟩ <;>
    exact ⟨rfl, by decide, by decide, by decide, by decide, by decide, by decide⟩

theorem witness_OnlyResetWritesTheConfiguration :
    (∃ t, exec .brAlign State.reset = .next t) ∧ Instr.brAlign ≠ .reset ∧ step State.reset = .next State.reset :=
  ⟨⟨_, rfl⟩, by decide, rfl⟩

theorem witness_InputIsNeverWritten :
    ∃ t, exec (.sdecCall (some [0x4B]) none) State.reset = .next t ∧ State.reset.status.fault = none ∧
      t.status.fault = none ∧ Instr.sdecCall (some [0x4B]) none ≠ .reset ∧ Instr.sdecCall (some [0x4B]) none ≠ .sdecInit :=
  ⟨_, next_stateOf (by decide +kernel), rfl, by decide +kernel, by decide, by decide⟩

theorem witness_ElementsTouchOnlyTheDecoder :
    ∃ t, (encode (.lit 99)).format ≠ .cmd ∧ (encode (.lit 99)).format ≠ .token ∧ exec (.lit 99) copying = .next t ∧
      copying.status.fault = none ∧ t.status.fault = none ∧ (encode (.lit 99)).format ≠ .dynHdr ∧
      (encode (.lit 99)).format ≠ .clSym := ⟨_, by decide, by decide, rfl, rfl, rfl, by decide, by decide⟩

theorem witness_EveryStepKeepsTheInvariant : State.reset.Inv ∧ step State.reset = .next State.reset := by
  refine ⟨⟨rfl, rfl, by decide, fun _ => ?_, fun _ => ?_, fun _ => ?_⟩, rfl⟩
  · exact ⟨by decide, by decide, by decide, by decide⟩
  · exact ⟨by decide, by decide⟩
  · exact ⟨by decide, by decide, by decide, by decide, by decide⟩

theorem witness_CommandsRunToCompletion :
    (encode .decBlock).format = .cmd ∧ (withIn [0x03, 0x00]).grain = .command ∧ (withIn [0x03, 0x00]).seq = .idle ∧
    ∃ t, exec .decBlock (withIn [0x03, 0x00]) = .next t := ⟨rfl, rfl, rfl, _, next_stateOf (by decide +kernel)⟩

theorem witness_TurnsMakeUpTheCommand :
    (encode .decBlock).format = .cmd ∧ ({ withIn [0x03, 0x00] with grain := .turn } : State).grain = .turn ∧
    ({ withIn [0x03, 0x00] with grain := .turn } : State).seq = .idle ∧
    ∃ t, exec .decBlock { ({ withIn [0x03, 0x00] with grain := .turn } : State) with grain := .command } = .next t :=
  ⟨rfl, rfl, rfl, _, next_stateOf (by decide +kernel)⟩

theorem witness_DecodingInvertsEncoding :
    Instr.wellFormed (.tMatch 29 0 0 29 13 8191) = true ∧ Instr.wellFormed (.bwWrite 4294967295 32 true) = true := by decide

theorem witness_EncodingInvertsDecoding : decode ⟨.dist, 0b1111111111111_11101, {}⟩ = .ok (.dist29 8191) := by decide

theorem witness_IllegalWordsAreApiFaults :
    State.reset.seq = .idle ∧ State.reset.status.fault = none ∧ faulted.status.fault = some .eCode ∧
    decode { format := .cmd, word := (issue 0x0328).word.toNat, ops := (issue 0x0328).ops } = .error (.badSelector 0x28 3) ∧
    (issue 0x0328).word.toNat % 256 = 0x28 ∧
    decode { format := .cmd, word := (issue 0xFFFF).word.toNat, ops := (issue 0xFFFF).ops } =
      .error (.unknownOperation 0xFF) := ⟨rfl, rfl, rfl, rfl, rfl, rfl⟩

theorem witness_BwWriteAppendsTheBits :
    (writing 0b1111111 7).status.fault = none ∧ (writing 0b1111111 7).bw.isOpen = true ∧ (writing 0b1111111 7).bw.bounded ∧
    (32 ≤ 32 ∧ 4294967295 < 2 ^ 32) ∧ 0 ≤ (writing 0b1111111 7).bw.byteIndex ∧
    ¬(State.reset.bw.isOpen = true ∧ 0 ≤ 32 ∧ 0 < 2 ^ 0) ∧ ¬((writing 0 0).bw.isOpen = true ∧ 33 ≤ 32 ∧ 0 < 2 ^ 33) :=
  ⟨rfl, rfl, writing_bounded.1, by decide, by decide, by decide, by decide⟩

theorem witness_BwFinishReturnsTheBytes :
    (writing 0b1111111 7).status.fault = none ∧ (writing 0b1111111 7).bw.isOpen = true ∧ (writing 0b1111111 7).bw.bounded ∧
    (writing 0b1111111 7).bw.bitIndex ≠ 0 ∧ State.reset.bw.isOpen = false ∧
    (let s := { writing 0 0 with bw := { (writing 0 0).bw with out := [(0, 7)], byteIndex := 1 } }
     0 < s.bw.byteIndex ∧ s.bw.out.read 0 = some 7) :=
  ⟨rfl, rfl, writing_bounded.1, by decide, rfl, by decide⟩

theorem witness_BrInitStartsTheReader :
    (withIn [1]).status.fault = none ∧ ({ (withIn [1]).cfg with startOffset := 1 } : Cfg).startOffset ≤ (withIn [1]).inMem.length ∧
    ({ (withIn [1]).cfg with startOffset := 2 } : Cfg).startOffset > (withIn [1]).inMem.length := by decide

/-- Thirteen bits are left: 13 and 14 meet the first two clauses; 17 the third. -/
theorem witness_BrReadReturnsTheNextBits :
    (reading [0xA5, 0x3C] 3).status.fault = none ∧ (reading [0xA5, 0x3C] 3).Reading ∧
    (13 ≤ 16 ∧ 13 ≤ (reading [0xA5, 0x3C] 3).avail) ∧ (14 ≤ 16 ∧ 14 > (reading [0xA5, 0x3C] 3).avail) ∧ 17 > 16 :=
  ⟨rfl, reading_stands.1, by decide, by decide, by decide⟩

/-- A table with an unfilled slot. -/
def tableU : DecodeTable := { table := [0x20000, 0x20002, 0x20001, 0], maxLen := 2, minLen := 2 }

theorem witness_BrDecodeConsumesOneCode :
    (let s := { reading [0xA5, 0x3C] 3 with built := [tableU] }
     s.status.fault = none ∧ s.grain = .command ∧ madeByBuilder tableU s = true ∧ s.Reading ∧ tableU.maxLen ≤ 15 ∧
     (∀ e ∈ tableU.table, entryLength e ≤ tableU.maxLen) ∧
     entryLength (tableU.table.getD (s.inMem.field s.br.pos (min tableU.maxLen s.avail)) 0) ≠ 0 ∧
     entryLength (tableU.table.getD (s.inMem.field s.br.pos (min tableU.maxLen s.avail)) 0) ≤ s.avail) ∧
    madeByBuilder tableU State.reset = false :=
  ⟨⟨rfl, rfl, by decide +kernel, ⟨rfl, by decide, by decide, by decide, by decide, by decide, by decide⟩, by decide,
    fun e he => of_decide_eq_true (List.all_eq_true.mp
      (by decide : tableU.table.all (fun e => decide (entryLength e ≤ tableU.maxLen)) = true) e he),
    by decide, by decide⟩, by decide +kernel⟩

/-- The other clauses: nothing left (the table of the empty code, and one whose slot 0 is unfilled or filled), and an
unfilled slot with its bits there. -/
theorem witness_BrDecode_exhausted :
    (let s := reading [0xA5] 8
     s.Reading ∧ min 1 s.avail = 0 ∧ entryLength (([0, 0x10000] : List Entry).getD (s.inMem.field s.br.pos 0) 0) = 0 ∧
     entryLength (tableU.table.getD (s.inMem.field s.br.pos (min tableU.maxLen s.avail)) 0) > s.avail) ∧
    (let s := reading [0xFF] 3
     s.Reading ∧ min tableU.maxLen s.avail = tableU.maxLen ∧
     entryLength (tableU.table.getD (s.inMem.field s.br.pos (min tableU.maxLen s.avail)) 0) = 0) :=
  ⟨⟨⟨rfl, by decide, by decide, by decide, by decide, by decide, by decide⟩, by decide, by decide, by decide⟩,
   ⟨⟨rfl, by decide, by decide, by decide, by decide, by decide, by decide⟩, by decide, by decide⟩⟩

theorem witness_DecodeTableEntryIsConsumed :
    (let s := { reading [0xA5, 0x3C] 3 with seq := .lookup 1 3 0x50000 }
     s.seq = .lookup 1 3 0x50000 ∧ (5 : BitVec 16) ≠ 0 ∧ (5 : BitVec 16).toNat ≤ s.br.acclen ∧ (6 : BitVec 16).toNat > s.br.acclen ∧
     s.br.acclen < 6 ∧ 5 ≤ s.br.acclen) := by decide

theorem witness_BrAlignReachesTheByteBoundary :
    (reading [0xA5, 0x3C] 3).status.fault = none ∧ (reading [0xA5, 0x3C] 3).br.acclen ≤ 8 * (reading [0xA5, 0x3C] 3).br.ip ∧
    (reading [0xA5, 0x3C] 3).Reading := ⟨rfl, by decide, reading_stands.1⟩

theorem witness_BrRestoreReturnsToTheSavedCursor :
    State.reset.br.saved = false ∧ (reading [0xA5, 0x3C] 3).Reading ∧
    ∃ t u v, exec .brSave (reading [0xA5, 0x3C] 3) = .next t ∧ t.br.saved = true ∧ 16 ≤ 16 ∧
      exec (.brRead 16) t = .next u ∧ exec .brRestore u = .next v :=
  ⟨rfl, reading_stands.1, _, _, _, rfl, rfl, by decide, rfl, rfl⟩

theorem witness_RdConsumedCountsWholeBytes : State.reset.status.fault = none ∧ faulted.status.fault ≠ none := by decide

theorem witness_HtbBuildMakesATable :
    lengthsOk [15, 1] = true ∧ [15, 1].length ≤ 288 ∧ kraftSum 15 [15, 1] ≤ 2 ^ 15 ∧ lengthsOk [1, 1, 1] = true ∧
    kraftSum 15 [1, 1, 1] > 2 ^ 15 ∧ (State.reset.lenTable .dist).written = false ∧
    (let s := { State.reset with lenD := .of [1, 1] }; (s.lenTable .dist).written = true ∧ (s.lenTable .dist).entries = [1, 1]) := by
  decide

theorem witness_EveryCodeDecodesToItsSymbol :
    lengthsOk [2, 1, 3, 3] = true ∧ htbBuild [2, 1, 3, 3] = .ok (tableT, 16) ∧ ccbCodes [2, 1, 3, 3] = some [1, 0, 3, 7] ∧
    [2, 1, 3, 3][2]? = some 3 ∧ 0 < 3 ∧ 3 < 2 ^ tableT.maxLen ∧ 3 % 2 ^ 3 = [1, 0, 3, 7].getD 2 0 := by decide +kernel

theorem witness_CcbLengthsFollowsTheSteps :
    State.reset.status.fault = none ∧ 15 < 16 ∧ (([0, 0].filter (· > 0)).length = 0) ∧ (([0, 7].filter (· > 0)).length = 1) ∧
    (2 ≤ ([1, 1].filter (· > 0)).length ∧ ([1, 1].filter (· > 0)).length ≤ 2 ^ 1) ∧ (([1, 1, 1].filter (· > 0)).length > 2 ^ 1) ∧
    (State.reset.freqTable .litLen).written = false ∧
    (let s := { State.reset with freqD := .of [1, 1] }; (s.freqTable .dist).written = true ∧ (s.freqTable .dist).entries = [1, 1]) := by
  decide

theorem witness_CcbCodesAreCanonical :
    lengthsOk [15, 0, 1] = true ∧ lengthsOk (List.replicate 300 9) = true ∧ kraftSum 15 [15, 0, 1] ≤ 2 ^ 15 ∧ kraftSum 15 [1, 1, 1] > 2 ^ 15 ∧
    (State.reset.lenTable .codeLen).written = false := by decide

theorem witness_RleExpandsToItsInput :
    State.reset.status.fault = none ∧ lengthsOk [15, 15, 15, 15] = true ∧ (rleOf [15, 15, 15, 15])[1]? = some ⟨16, 2, 0⟩ := by
  decide +kernel

/-- An encoder that keeps two bytes of the caller's buffer. -/
def headed (l : List Nat) : State :=
  { withIn l with cfg := { State.reset.cfg with outputBuffer := some (bytes [0x78, 0x9C]), outputOffset := 2 } }

theorem witness_EncStored_EncFixed :
    (headed [0x61]).status.fault = none ∧ (headed [0x61]).grain = .command ∧
    (headed [0x61]).cfg.outputOffset ≤ ((headed [0x61]).cfg.outputBuffer.getD []).length := by decide

/-- With empty input: one literal/length symbol, no distance, and the code-length symbols 0, 1 and 18. -/
theorem witness_EncDynamicWritesOneDynamicBlock :
    (let run := matchRun (withIn []).inMem.bytes 0 (withIn []).lzm
     let ll := (List.replicate 286 0).set 256 1
     let freqCL := rleFreq (rleOf (ll.take 257 ++ (List.replicate 30 0).take 1))
     let cl := ((List.replicate 19 0).set 0 2).set 1 2 |>.set 18 1
     ccbLengths (withIn []).params run.freqLL 15 = .ok ll ∧ ll.length = run.freqLL.length ∧
     (List.range 286).all (fun i => decide (run.freqLL.getD i 0 = 0 ↔ ll.getD i 0 = 0)) = true ∧ (∀ l ∈ ll, l ≤ 15) ∧
     kraftSum 15 ll ≤ 2 ^ 15 ∧ ccbLengths (withIn []).params run.freqD 7 = .ok (List.replicate 30 0) ∧
     (run.freqD = List.replicate 30 0) ∧ kraftSum 7 (List.replicate 30 0) ≤ 2 ^ 7 ∧
     ((List.range 286).drop 257).all (fun i => ll.getD i 0 == 0) = true ∧
     ccbLengths (withIn []).params freqCL 7 = .ok cl ∧ cl.length = freqCL.length ∧
     (List.range 19).all (fun i => decide (freqCL.getD i 0 = 0 ↔ cl.getD i 0 = 0)) = true ∧ (∀ l ∈ cl, l ≤ 7) ∧
     kraftSum 7 cl ≤ 2 ^ 7) := by decide +kernel

theorem witness_TokensArePacked :
    packing.bw.isOpen = true ∧ packing.bw.bounded ∧
    (∀ k ∈ [97, 256, 257, 285], packing.lenLL.entries.getD k 0 ≠ 0 ∧ packing.lenLL.entries.getD k 0 ≤ 15 ∧
      packing.codeLL.entries.getD k 0 < 2 ^ packing.lenLL.entries.getD k 0) ∧
    (∀ k ∈ [0, 29], packing.lenD.entries.getD k 0 ≠ 0 ∧ packing.lenD.entries.getD k 0 ≤ 15 ∧
      packing.codeD.entries.getD k 0 < 2 ^ packing.lenD.entries.getD k 0) ∧
    ((0 : Slot).toNat = lenExtra.getD (29 - 1) 0 ∧ (0 : Slot).toNat < 2 ^ 0 ∧ (13 : Slot).toNat = distExtra.getD 29 0 ∧
      (8191 : Slot).toNat < 2 ^ 13) :=
  ⟨rfl, ⟨by decide, by decide⟩, by decide +kernel, by decide +kernel, by decide⟩

theorem witness_BadTokensAreApiFaults :
    packing.bw.isOpen = true ∧ packing.lenLL.entries.getD 98 0 = 0 ∧ (writing 0 0).lenLL.entries.getD 256 0 = 0 ∧
    (30 : BitVec 8).toNat > 29 ∧ (30 : Slot).toNat > 29 ∧ packing.lenD.entries.getD 1 0 = 0 ∧
    packing.lenLL.entries.getD (256 + 1) 0 ≠ 0 ∧ (1 : Slot).toNat ≠ lenExtra.getD (1 - 1) 0 := by decide +kernel

/-- The hypotheses of BlockHeadersSelectTheBlock, LengthSymbolsGiveTheirLength and of the other elements. -/
theorem witness_elements :
    (decoding .block .blkHdr State.reset).seq = .decode .block .blkHdr ∧
    (decoding .stream .stored State.reset).seq = .decode .stream .stored := ⟨rfl, rfl⟩

theorem witness_StoredBlockCopiesItsBytes :
    (let s := decoding .stream .stored (reading [0xA5, 0x3C] 8)
     (3 : BitVec 16) ^^^ 0xFFFC = 0xFFFF ∧ (3 : BitVec 16) ^^^ 0xFEFC ≠ 0xFFFF ∧ s.br.pos % 8 = 0 ∧
     8 * (1 : BitVec 16).toNat ≤ s.avail ∧ 8 * (2 : BitVec 16).toNat > s.avail ∧ (1 : BitVec 16) ^^^ 0xFFFE = 0xFFFF ∧
     s.params.maxOutputBytes = none ∧ s.dec.bfinal = false) ∧
    (decoding .stream .stored (reading [0xA5, 0x3C] 8)).Reading ∧
    ({ State.reset with dec := { State.reset.dec with bfinal := true } } : State).dec.bfinal = true :=
  ⟨by decide, ⟨rfl, by decide, by decide, by decide, by decide, by decide, by decide⟩, rfl⟩

theorem witness_DynamicHeaderBuildsTheCodeLengthTable :
    (30 : BitVec 5).toNat > 29 ∧ (29 : BitVec 5).toNat ≤ 29 ∧
    (let s := reading [0x01, 0x02] 0
     3 * ((0 : BitVec 4).toNat + 4) ≤ s.avail ∧ kraftSum 7 (headerLens s.inMem s.br.pos 4) ≤ 2 ^ 7) ∧
    (let s := reading [0x49, 0x02] 0; kraftSum 7 (headerLens s.inMem s.br.pos 4) > 2 ^ 7) ∧
    (reading [0x01, 0x02] 0).Reading :=
  ⟨by decide, by decide, by decide, by decide, ⟨rfl, by decide, by decide, by decide, by decide, by decide, by decide⟩⟩

theorem witness_CodeLengthSymbolsAppendTheirLengths :
    clRun (.cl18 127) (header [9]).dec.hdr.lens = some (List.replicate 138 0) ∧ (header [9]).dec.hdr.lens.length + 138 < 257 + 1 ∧
    (List.replicate 138 9).length < 258 ∧ (List.replicate 138 9).length + 138 > 258 ∧ clRun (.cl16 0) [] = none ∧
    (header []).dec.hdr.lens = [] := by decide

theorem witness_LastCodeLengthSymbolBuildsTheTables :
    (let s := header (List.replicate 138 0)
     clRun (.cl18 109) s.dec.hdr.lens = some (List.replicate 120 0) ∧
     s.dec.hdr.lens.length + 120 = s.dec.hdr.hlit + s.dec.hdr.hdist ∧ (∀ l ∈ s.dec.hdr.lens, l ≤ 15) ∧
     kraftSum 15 ((s.dec.hdr.lens ++ List.replicate 120 0).take 257) ≤ 2 ^ 15) ∧
    kraftSum 15 ((List.replicate 257 1 ++ [1]).take 257) > 2 ^ 15 := by decide +kernel

theorem witness_LiteralAppendsItsByte :
    copying.seq = .decode .block .litLen ∧ copying.params.maxOutputBytes ≠ some copying.dec.op ∧ Job.adaptive ≠ .block ∧
    ({ copying with params := { copying.params with maxOutputBytes := some 2 } } : State).params.maxOutputBytes =
      some copying.dec.op := by decide

theorem witness_EndOfBlockEndsTheStreamIfFinal :
    copying.dec.bfinal = false ∧ copying.dec.blocks.flatten <+: copying.dec.out := ⟨rfl, by decide⟩

theorem witness_DistanceSymbolsCopyTheMatch :
    2 ≤ copying.dec.op ∧ 3 > copying.dec.op ∧
    (let s := { decoding .stream .dist copying with params := { copying.params with maxOutputBytes := some 6 } }
     s.dec.op ≤ 6 ∧ 6 < s.dec.op + s.dec.matchLen ∧ s.params.maxOutputBytes = some 6 ∧ Job.stream ≠ .block) := by decide

theorem witness_DecodersReturnAStoredStream :
    (let s := { withIn ([0xFF] ++ [0x01, 0x01, 0x00, 0xFE, 0xFF, 0x61] ++ [0x42]) with
                cfg := { State.reset.cfg with startOffset := 1 } }
     s.status.fault = none ∧ s.grain = .command ∧ (∀ m, s.params.maxOutputBytes = some m → (bytes [0x61]).length ≤ m) ∧
     s.cfg.startOffset = (bytes [0xFF]).length ∧
     s.inMem = Memory.ofBytes 0 (bytes [0xFF] ++ stored (bytes [0x61]) ++ bytes [0x42])) ∧
    (∀ m, ({ State.reset.params with maxOutputBytes := some 1 } : Config.Params).maxOutputBytes = some m →
      (bytes [0x61]).length ≤ m) ∧
    State.reset.cfg.startOffset = State.reset.inMem.length ∧
    ({ State.reset.cfg with startOffset := 1 } : Cfg).startOffset > State.reset.inMem.length :=
  ⟨⟨rfl, rfl, (fun _ h => nomatch (show (none : Option Nat) = some _ from h)), rfl, by decide +kernel⟩,
   fun m h => by cases h; decide, by decide, by decide⟩

/-- The fixed stream of R279: an 'a', a match of length 9 at distance 1, two pad bits. -/
theorem witness_DecodersReturnAStoredStream_fixed :
    bytesBits (bytes [0x4B, 0x84, 0x03, 0x00]) =
      [true, true, false] ++ (([Token.lit 97, .copy 263 0 0 0 0 0] ++ [Token.eob]).map Token.fixedBits).flatten ++
        List.replicate 2 false ∧
    (∀ k ∈ [Token.lit 97, .copy 263 0 0 0 0 0], k ≠ Token.eob) ∧ Token.ranged (.lit 97) ∧
    Token.ranged (.copy 263 0 0 0 0 0) ∧
    Token.expand [.lit 97, .copy 263 0 0 0 0 0] [] = some (List.replicate 10 0x61) :=
  ⟨by decide +kernel, by decide, (by decide : 97 ≤ 255), ⟨by decide, by decide, by decide, by decide, by decide, by decide, by decide⟩,
   by decide +kernel⟩

theorem witness_BufferStrategiesAgree :
    (withIn [0x03, 0x00]).status.fault = none ∧
    (∃ t u, exec .decBlock (withIn [0x03, 0x00]) = .next t ∧ exec .decAdaptive (withIn [0x03, 0x00]) = .next u ∧
      u.status.fault ≠ some .eOverflow ∧ t.status.fault = none) ∧
    ∃ w, exec .decBlock
      { withIn [0x03, 0x00] with
        cfg := { (withIn [0x03, 0x00]).cfg with bufferSize := 7, growth := some (.fixed 3) } } = .next w :=
  ⟨rfl, ⟨_, _, next_stateOf (by decide +kernel), next_stateOf (by decide +kernel), by decide +kernel, by decide +kernel⟩,
   _, next_stateOf (by decide +kernel)⟩

theorem witness_SdecCallReturnsAStoredStream :
    State.reset.FreshStream ∧ State.reset.grain = .command ∧
    (∀ m, State.reset.params.maxOutputBytes = some m → (bytes [0x61]).length ≤ m) ∧
    (some 1 = some (bytes [0xFF]).length) ∧ 2 > ((some (bytes [0x4B])).getD []).length ∧
    (let s := { State.reset with status := { State.reset.status with done := true }, sdec := { State.reset.sdec with started := true } }
     s.status.fault = none ∧ s.status.done = true ∧ s.sdec.started = true) :=
  ⟨reset_fresh, rfl, (fun _ h => nomatch (show (none : Option Nat) = some _ from h)), by decide, by decide, by decide⟩

/-- A call that ends waiting; one that ends done. -/
theorem witness_streamingCalls :
    ∃ t u, exec (.sdecCall (some [0x4B]) none) State.reset = .next t ∧ t.status.fault = none ∧ t.status.needInput = true ∧
      State.reset.inMem = Memory.ofBytes 0 [] ∧
      exec (.sdecCall (some [0x03, 0x00]) none) State.reset = .next u ∧ u.status.fault = none ∧ u.status.done = true :=
  ⟨_, _, next_stateOf (by decide +kernel), by decide +kernel, by decide +kernel, rfl, next_stateOf (by decide +kernel),
   by decide +kernel, by decide +kernel⟩

/-- A stream that waits inside a dynamic block. -/
def waitingInBlock : State :=
  { State.reset with
    status := { State.reset.status with needInput := true }
    sdec := { state := .decodeBlockStart, sp := 0, started := true }
    dec := { State.reset.dec with btype := .dynamic, ll := tableT, d := tableT } }

theorem witness_ChunkingDoesNotChangeTheStream :
    State.reset.FreshStream ∧ State.reset.grain = .command ∧ [bytes [0x03], bytes [0x00]] ≠ [] ∧
    (∃ u, exec (.sdecCall (some [bytes [0x03], bytes [0x00]].flatten) none) State.reset = .next u ∧ u.status.fault = none) ∧
    waitingInBlock.Waiting ∧
    ∃ u, exec (.sdecCall (some [bytes [0x03], bytes []].flatten) none) waitingInBlock = .next u ∧ u.status.fault = none :=
  have built : BuiltTable tableT := ⟨[2, 1, 3, 3], 16, by decide, by decide +kernel⟩
  ⟨reset_fresh, rfl, by decide, ⟨_, next_stateOf (by decide +kernel), by decide +kernel⟩,
   ⟨rfl, rfl, rfl, rfl, rfl, by decide, rfl, ⟨rfl, by decide, by decide, by decide, by decide, by decide, by decide⟩,
     ⟨[], rfl, rfl⟩, fun _ _ => ⟨built, built⟩⟩,
   _, next_stateOf (by decide +kernel), by decide +kernel⟩

/-- The boundary values: no symbol, one, and all the 2^L symbols a limit admits. -/
theorem witness_CodeLengthsMeetTheContract :
    1 ≤ 1 ∧ (([] : List Nat).filter (· > 0)).length ≤ 2 ^ 1 ∧ ([0, 7].filter (· > 0)).length ≤ 2 ^ 1 ∧
    ([3, 9].filter (· > 0)).length = 2 ^ 1 := by decide

end Sys2Proof.Tests
end

section
/-! PROOFS. The scope of a command (R3, R11, R13, R35): what the host owns stays as it is under every instruction but
RESET, and the turns a command is given suffice. Both rest on one reading of the shared operations: each either ends the
command on an idle core (`Ended`) or goes on with no more work left than before (`Onward`). -/

namespace Sys2Proof.Machine

/-! ## Ending and going on -/

/-- What the core only reads: CFG, the pending commands, the parameters and the grain. -/
def State.host (s : State) : Cfg × List Issue × Config.Params × Grain := (s.cfg, s.port, s.params, s.grain)

theorem host_eq_iff {s t : State} :
    t.host = s.host ↔ t.cfg = s.cfg ∧ t.port = s.port ∧ t.params = s.params ∧ t.grain = s.grain := by
  simp [State.host]

/-- The bits a reader has not consumed: those of the bytes not yet loaded and those in the accumulator. -/
def Reader.left (r : Reader) : Nat := 8 * (r.inputLength - r.ip) + r.acclen

/-- The bits and the token slots that the elements still to come can consume. -/
def State.workLeft (s : State) : Nat := s.br.left + (s.tok.length - s.enc.tokIndex)

/-- The command is over: the core is idle. -/
structure Ended (s t : State) : Prop where
  host : t.host = s.host
  idle : t.seq = .idle

/-- The command goes on with at least `n` units of work done. -/
structure Onward (n : Nat) (s t : State) : Prop where
  host : t.host = s.host
  work : t.workLeft + n ≤ s.workLeft

theorem Onward.trans {n m : Nat} {s t u : State} (h : Onward n s t) (h' : Onward m t u) : Onward (n + m) s u :=
  ⟨h'.host.trans h.host, by have := h.work; have := h'.work; omega⟩

theorem Onward.mono {n m : Nat} {s t : State} (h : Onward n s t) (hm : m ≤ n) : Onward m s t :=
  ⟨h.host, by have := h.work; omega⟩

theorem Ended.of_host {s t u : State} (h : Ended t u) (ht : t.host = s.host) : Ended s u :=
  ⟨h.host.trans ht, h.idle⟩

/-- An operation that ends the command in a state of which `E` holds, or answers a value of which `G` holds. -/
def Meets {α : Type} (E : State → Prop) (G : α → Prop) : Act α → Prop
  | .ok x => G x
  | .error t => E t

theorem Meets.of_ok {α : Type} {E : State → Prop} {G : α → Prop} {a : Act α} {x : α} (h : Meets E G a)
    (e : a = .ok x) : G x := by subst e; exact h

theorem Meets.of_error {α : Type} {E : State → Prop} {G : α → Prop} {a : Act α} {t : State} (h : Meets E G a)
    (e : a = .error t) : E t := by subst e; exact h

theorem Meets.imp {α : Type} {E E' : State → Prop} {G G' : α → Prop} {a : Act α} (h : Meets E G a)
    (he : ∀ t, E t → E' t) (hg : ∀ x, G x → G' x) : Meets E' G' a := by
  cases a with
  | ok x => exact hg x h
  | error t => exact he t h

theorem Meets.map {α β : Type} {E : State → Prop} {G : α → Prop} {G' : β → Prop} {a : Act α} {f : α → β}
    (h : Meets E G a) (hf : ∀ x, G x → G' (f x)) : Meets E G' (a.map f) := by
  cases a with
  | ok x => exact hf x h
  | error t => exact h

/-- The common case: an operation inside a command that starts in `s`. -/
def Runs (s : State) : Act State → Prop := Meets (Ended s) (Onward 0 s)

/-- An operation run from a state that is `n` units of work on. -/
theorem Meets.after {α : Type} {n m : Nat} {s u : State} {f : α → State} {a : Act α}
    (h : Meets (Ended u) (fun x => Onward m u (f x)) a) (hu : Onward n s u) :
    Meets (Ended s) (fun x => Onward (n + m) s (f x)) a :=
  h.imp (fun _ ht => ht.of_host hu.host) (fun _ hx => hu.trans hx)

theorem Runs.after {n : Nat} {s u : State} {a : Act State} (h : Runs u a) (hu : Onward n s u) : Runs s a :=
  (Meets.after h hu).imp (fun _ ht => ht) (fun _ hx => hx.mono (Nat.zero_le _))

/-! ## What ends a command -/

theorem raise_ended (f : FaultCode) (info : Nat) (s : State) : Ended s (raise f info s) := ⟨rfl, rfl⟩

theorem answer_ended (r : Result) (s : State) : Ended s (answer r s) := ⟨rfl, rfl⟩

theorem answerDone_ended (bs : List Byte) (s : State) : Ended s (answerDone bs s) := ⟨rfl, rfl⟩

theorem needInput_ended (s : State) : Ended s (needInput s) := ⟨rfl, rfl⟩

/-- Whoever asked for the missing bits, the command is over (R148, R338, R341). -/
theorem exhausted_ended (s : State) : Ended s (exhausted s) := by
  unfold exhausted
  split
  · exact ⟨rfl, rfl⟩
  · exact raise_ended _ _ s
  · exact ⟨rfl, rfl⟩

/-! ## What leaves the work as it is -/

theorem goto_onward (ph : Phase) (s : State) : Onward 0 s (s.goto ph) :=
  ⟨by simp [State.host], by simp [State.workLeft]⟩

theorem streamState_onward (x : SdecState) (s : State) : Onward 0 s (s.streamState x) :=
  ⟨by simp [State.host], by simp [State.workLeft]⟩

theorem flushBlocks_onward (s : State) : Onward 0 s (flushBlocks s) :=
  ⟨by simp [State.host], by simp [State.workLeft]⟩

theorem tryStart_onward (s : State) : Onward 0 s (tryStart s) := by
  unfold tryStart
  split <;> exact ⟨rfl, le_rfl⟩

/-- A change of the decoder's registers alone. -/
theorem dec_onward (d : Dec) (s : State) : Onward 0 s { s with dec := d } := ⟨rfl, le_rfl⟩

/-! ## The reader -/

/-- Loading bytes consumes nothing (R146). -/
@[simp] theorem Reader.refill_left (m : Memory) (n fuel : Nat) (r : Reader) : (r.refill m n fuel).left = r.left := by
  induction fuel generalizing r with
  | zero => rfl
  | succ fuel ih =>
    rw [Reader.refill]
    split
    · split
      · rw [ih]; simp only [Reader.left]; omega
      · rfl
    · rfl

/-- Consuming `n` of the bits held. -/
theorem Reader.drop_left {n : Nat} {r : Reader} (h : n ≤ r.acclen) : (r.drop n).left + n = r.left := by
  simp only [Reader.left, Reader.drop]; omega

theorem refill_onward (m : Memory) (n fuel : Nat) (s : State) :
    Onward 0 s { s with br := s.br.refill m n fuel } := ⟨rfl, by simp [State.workLeft]⟩

theorem drop_onward {n : Nat} {s : State} (h : n ≤ s.br.acclen) : Onward n s { s with br := s.br.drop n } :=
  ⟨rfl, by have := Reader.drop_left h; simp only [State.workLeft]; omega⟩

theorem align_onward (s : State) : Onward 0 s { s with br := s.br.align } :=
  (drop_onward (Nat.mod_le s.br.acclen 8)).mono (Nat.zero_le _)

theorem readBits_meets (n : Nat) (s : State) : Meets (Ended s) (fun x => Onward n s x.2) (readBits n s) := by
  have hr := refill_onward s.inMem n n s
  unfold readBits
  dsimp only
  split
  · exact (exhausted_ended _).of_host hr.host
  · rename_i held
    exact (hr.trans (drop_onward (Nat.le_of_not_lt held))).mono (by omega)

/-- A symbol found has a code of at least one bit (R149). -/
theorem consumeEntry_meets (index maxLen cl sym : Nat) (s : State) :
    Meets (Ended s) (fun x => Onward 1 s x.2) (consumeEntry index maxLen cl sym s) := by
  rcases consumeEntry_cases index maxLen cl sym s with ⟨hcl, held, h⟩ | h | ⟨-, -, h⟩ <;> rw [h]
  · exact (drop_onward held).mono (Nat.pos_of_ne_zero hcl)
  · exact exhausted_ended s
  · exact raise_ended _ _ s

theorem lookupEntry_onward (t : DecodeTable) (s : State) : Onward 0 s (lookupEntry t s).2.2 := refill_onward _ _ _ s

theorem readSymbol_meets (t : DecodeTable) (s : State) : Meets (Ended s) (fun x => Onward 1 s x.2) (readSymbol t s) :=
  (consumeEntry_meets ..).after (lookupEntry_onward t s)

theorem readClLengths_meets (order lens : List Nat) (s : State) :
    Meets (Ended s) (fun x => Onward 0 s x.2) (readClLengths order lens s) := by
  induction order generalizing lens s with
  | nil => exact ⟨rfl, le_rfl⟩
  | cons sym order ih =>
    have bits := readBits_meets 3 s
    rw [readClLengths]
    split
    next h => exact bits.of_error h
    next h => exact ((ih _ _).after (bits.of_ok h)).imp (fun _ ht => ht) (fun _ hx => hx.mono (Nat.zero_le _))

/-! ## The operations of the decoders -/

theorem emit_runs (b : Byte) (s : State) : Runs s (emit b s) := by
  rcases emit_cases b s with h | ⟨-, -, h⟩ <;> rw [h]
  · exact dec_onward _ s
  · exact raise_ended _ _ s

theorem copyMatch_runs (distance n : Nat) (s : State) : Runs s (copyMatch distance n s) := by
  induction n generalizing s with
  | zero => exact ⟨rfl, le_rfl⟩
  | succ n ih =>
    have he := emit_runs (s.dec.out.getD (s.dec.op - distance) 0) s
    rw [copyMatch]
    split
    next h => exact he.of_error h
    next h => exact (ih _).after (he.of_ok h)

theorem endBlock_onward (s : State) : Onward 0 s (endBlock s) := by
  have hs := streamState_onward .decodeBlockEnd s
  unfold endBlock
  dsimp only
  split
  · refine hs.trans (m := 0) ?_
    split <;> exact ⟨rfl, le_rfl⟩
  · exact hs.trans ((streamState_onward .initialized _).trans (goto_onward .blkHdr _))

theorem copyStored_runs (n : Nat) (s : State) : Runs s (copyStored n s) := by
  induction n generalizing s with
  | zero => exact ⟨rfl, le_rfl⟩
  | succ n ih =>
    have bits := (readBits_meets 8 (flushBlocks s)).after (flushBlocks_onward s)
    rw [copyStored]
    split
    · exact needInput_ended s
    · split
      next h => exact bits.of_error h
      next v u h =>
        have he := (emit_runs (BitVec.ofNat 8 v) u).after (bits.of_ok h)
        split
        next h' => exact he.of_error h'
        next h' => exact (ih _).after ((he.of_ok h').trans (dec_onward _ _))

theorem storedBody_runs (s : State) : Runs s (storedBody s) := by
  unfold storedBody
  split
  · exact raise_ended _ _ s
  · exact (copyStored_runs _ s).map fun u hu => hu.trans (endBlock_onward u)

theorem buildHeaderTable_meets (lengths : List Nat) (s : State) :
    Meets (Ended s) (fun x => Onward 0 s x.2) (buildHeaderTable lengths s) := by
  unfold buildHeaderTable buildTable
  cases htbBuild lengths with
  | error i => exact raise_ended _ _ s
  | ok x => exact ⟨rfl, le_rfl⟩

theorem finishHeader_runs (s : State) : Runs s (finishHeader s) := by
  have hll := buildHeaderTable_meets (s.dec.hdr.lens.take s.dec.hdr.hlit) s
  unfold finishHeader
  split
  next h => exact hll.of_error h
  next u h =>
    have hd := (buildHeaderTable_meets ((u.dec.hdr.lens.drop u.dec.hdr.hlit).take u.dec.hdr.hdist) u).after
      (hll.of_ok h)
    split
    next h' => exact hd.of_error h'
    next h' =>
      exact ((hd.of_ok h').trans (dec_onward _ _)).trans
        ((streamState_onward .decodeBlockStart _).trans (goto_onward .litLen _))

theorem headerTurn_runs (s : State) : Runs s (headerTurn s) := by
  unfold headerTurn
  split
  · exact goto_onward .clSym s
  · exact finishHeader_runs s

theorem appendLength_runs (v : Nat) (s : State) : Runs s (appendLength v s) :=
  (headerTurn_runs _).after (dec_onward _ s)

theorem appendRepeat_runs (rep v : Nat) (s : State) : Runs s (appendRepeat rep v s) := by
  unfold appendRepeat
  split
  · exact raise_ended _ _ s
  · exact (headerTurn_runs _).after (dec_onward _ s)

theorem takeLength_onward (length : Nat) (s : State) : Onward 0 s (takeLength length s) :=
  (dec_onward _ s).trans (goto_onward .dist _)

theorem takeDistance_runs (distance : Nat) (s : State) : Runs s (takeDistance distance s) := by
  unfold takeDistance
  split
  · exact raise_ended _ _ s
  · exact (copyMatch_runs _ _ s).map fun u hu => hu.trans (goto_onward .litLen u)

theorem blockHeader_onward (bfinal : Bool) (btype : BType) (s : State) : Onward 0 s (blockHeader bfinal btype s) :=
  (dec_onward _ s).trans (streamState_onward .blockHeaderEnd _)

theorem dynamicHeader_runs (hlit hdist hclen : Nat) (s : State) : Runs s (dynamicHeader hlit hdist hclen s) := by
  have hcl := readClLengths_meets (clOrder.take hclen) (List.replicate Config.nCl 0) s
  unfold dynamicHeader
  split
  · exact raise_ended _ _ s
  split
  · exact raise_ended _ _ s
  split
  next h => exact hcl.of_error h
  next lens u h =>
    have hu : Onward 0 s { u with lenCL := .of lens } := (hcl.of_ok h).trans (m := 0) ⟨rfl, le_rfl⟩
    have ht := (buildHeaderTable_meets lens _).after hu
    split
    next h' => exact ht.of_error h'
    next h' => exact ((ht.of_ok h').trans (dec_onward _ _)).trans (goto_onward .clSym _)

/-! ## The elements -/

/-- Where a turn can lead: the command is over, or it goes on in a state of which `R` holds. -/
def Leads (s : State) (R : State → Prop) (o : Outcome) : Prop := ∀ t, o = .next t → Ended s t ∨ R t

theorem Leads.of_ended {s t : State} {R : State → Prop} (h : Ended s t) : Leads s R (.next t) := by
  rintro _ ⟨⟩; exact .inl h

theorem Leads.of_next {s t : State} {R : State → Prop} (h : R t) : Leads s R (.next t) := by
  rintro _ ⟨⟩; exact .inr h

theorem Leads.of_meets {s : State} {R : State → Prop} {a : Act State} (h : Meets (Ended s) R a) :
    Leads s R (conclude a) := by
  cases a with
  | ok t => exact .of_next h
  | error t => exact .of_ended h

theorem Leads.of_ends {s : State} {R : State → Prop} {a : Act State} (h : Meets (Ended s) (Ended s) a) :
    Leads s R (conclude a) := by
  cases a <;> exact .of_ended h

theorem Leads.after {n m : Nat} {s u : State} {o : Outcome} (h : Leads u (Onward m u) o) (hu : Onward n s u) :
    Leads s (Onward (n + m) s) o := fun t ht => (h t ht).imp (fun he => he.of_host hu.host) hu.trans

theorem Leads.host {s t : State} {R : State → Prop} {o : Outcome} (h : Leads s R o) (ht : o = .next t)
    (hR : R t → t.host = s.host) : t.host = s.host := (h t ht).elim Ended.host hR

theorem execStoredHdr_leads (len nlen : BitVec 16) (s : State) : Leads s (Onward 0 s) (execStoredHdr len nlen s) := by
  unfold execStoredHdr
  split
  · exact .of_ended (raise_ended _ _ s)
  · exact .of_meets ((storedBody_runs _).after ((dec_onward _ s).trans (streamState_onward .decodeBlockStart _)))

theorem execCl16_leads (extra : BitVec 2) (s : State) : Leads s (Onward 0 s) (execCl16 extra s) := by
  unfold execCl16
  split
  · exact .of_ended (raise_ended _ _ s)
  · exact .of_meets (appendRepeat_runs _ _ s)

/-- An entry is a BR.DECODE's one turn (R149). -/
theorem execDte_leads (cl sym : BitVec 16) (s : State) (R : State → Prop) : Leads s R (execDte cl sym s) := by
  unfold execDte
  dsimp only
  split
  next h => exact .of_ended ((consumeEntry_meets ..).of_error h)
  next h => exact .of_ended ((answer_ended _ _).of_host ((consumeEntry_meets ..).of_ok h).host)

/-- No element but a token adds to the work left. -/
theorem execElement_leads (i : Instr) (s : State) (h : (encode i).format ≠ .token) :
    Leads s (Onward 0 s) (execElement i s) := by
  cases i with
  | blockStored f =>
    exact .of_next ((blockHeader_onward f .stored s).trans
      ((streamState_onward .blockBodyStart _).trans (goto_onward .stored _)))
  | blockFixed f =>
    exact .of_next ((blockHeader_onward f .fixed s).trans
      ((dec_onward _ _).trans ((streamState_onward .decodeBlockStart _).trans (goto_onward .litLen _))))
  | blockDynamic f =>
    exact .of_next ((blockHeader_onward f .dynamic s).trans
      ((streamState_onward .blockBodyStart _).trans (goto_onward .dynHdr _)))
  | blockReserved f => exact .of_ended ((raise_ended _ _ _).of_host (blockHeader_onward f .reserved s).host)
  | storedHdr len nlen => exact execStoredHdr_leads len nlen s
  | dynHdr l d c => exact .of_meets (dynamicHeader_runs _ _ _ s)
  | lit b => exact .of_meets ((emit_runs b s).map fun u hu => hu.trans (goto_onward .litLen u))
  | eob => exact .of_next (endBlock_onward s)
  | len257 | len258 | len259 | len260 | len261 | len262 | len263 | len264 | len285 =>
    exact .of_next (takeLength_onward _ s)
  | len265 x | len266 x | len267 x | len268 x | len269 x | len270 x | len271 x | len272 x | len273 x | len274 x
  | len275 x | len276 x | len277 x | len278 x | len279 x | len280 x | len281 x | len282 x | len283 x | len284 x =>
    exact .of_next (takeLength_onward _ s)
  | llInvalid286 | llInvalid287 | distInvalid30 | distInvalid31 => exact .of_ended (raise_ended _ _ s)
  | dist0 | dist1 | dist2 | dist3 => exact .of_meets (takeDistance_runs _ s)
  | dist4 x | dist5 x | dist6 x | dist7 x | dist8 x | dist9 x | dist10 x | dist11 x | dist12 x | dist13 x | dist14 x
  | dist15 x | dist16 x | dist17 x | dist18 x | dist19 x | dist20 x | dist21 x | dist22 x | dist23 x | dist24 x
  | dist25 x | dist26 x | dist27 x | dist28 x | dist29 x =>
    exact .of_meets (takeDistance_runs _ s)
  | cl0 | cl1 | cl2 | cl3 | cl4 | cl5 | cl6 | cl7 | cl8 | cl9 | cl10 | cl11 | cl12 | cl13 | cl14 | cl15 =>
    exact .of_meets (appendLength_runs _ s)
  | cl16 x => exact execCl16_leads x s
  | cl17 x | cl18 x => exact .of_meets (appendRepeat_runs _ _ s)
  | dte cl sym => exact execDte_leads cl sym s _
  | tLit | tEob | tMatch => exact absurd rfl h
  | _ => exact .of_next ⟨rfl, le_rfl⟩

/-! ## The packer -/

/-- Only the writer has changed. -/
def WriterOnly (s t : State) : Prop := ∃ w, t = { s with bw := w }

theorem WriterOnly.trans {s t u : State} : WriterOnly s t → WriterOnly t u → WriterOnly s u := by
  rintro ⟨v, rfl⟩ ⟨w, rfl⟩; exact ⟨w, rfl⟩

theorem WriterOnly.host {s t : State} : WriterOnly s t → t.host = s.host := by
  rintro ⟨w, rfl⟩; rfl

/-- An operation that writes bits, run after another. -/
theorem Meets.afterWriting {s u : State} {a : Act State} (h : Meets (Ended u) (WriterOnly u) a) (hu : WriterOnly s u) :
    Meets (Ended s) (WriterOnly s) a :=
  h.imp (fun _ ht => ht.of_host hu.host) (fun _ hx => hu.trans hx)

/-- A token has been written and its slots passed. -/
def Packed (s t : State) : Prop := ∃ k u, 0 < k ∧ WriterOnly s u ∧ t = advance k u

theorem Packed.host {s t : State} : Packed s t → t.host = s.host := by
  rintro ⟨k, u, -, hu, rfl⟩; exact hu.host

/-- A token uses up at least its slot 0 (R235). -/
theorem Packed.onward {s t : State} (hs : s.enc.tokIndex < s.tok.length) : Packed s t → Onward 1 s t := by
  rintro ⟨k, _, hk, ⟨w, rfl⟩, rfl⟩
  exact ⟨rfl, by simp only [State.workLeft, advance]; omega⟩

theorem bwWrite_meets (value n : Nat) (reversed : Bool) (s : State) :
    Meets (Ended s) (WriterOnly s) (bwWrite value n reversed s) := by
  unfold bwWrite
  split
  · exact ⟨_, rfl⟩
  · exact raise_ended _ _ s

theorem packSymbol_meets (t : Nat) (s : State) : Meets (Ended s) (WriterOnly s) (packSymbol t s) := by
  unfold packSymbol
  split
  · exact raise_ended _ _ s
  split
  · exact raise_ended _ _ s
  · exact bwWrite_meets ..

theorem packMatch_meets (t eb ev d deb dev : Nat) {s u : State} (hu : WriterOnly s u) :
    Meets (Ended s) (Packed s) (packMatch t eb ev d deb dev u) := by
  unfold packMatch
  split
  · exact (raise_ended _ _ u).of_host hu.host
  split
  · exact (raise_ended _ _ u).of_host hu.host
  have hev := (bwWrite_meets ev eb true u).afterWriting hu
  split
  next h => exact hev.of_error h
  next v h =>
    have hd := (bwWrite_meets (v.codeD.entries.getD d 0) (v.lenD.entries.getD d 0) true v).afterWriting (hev.of_ok h)
    split
    next h' => exact hd.of_error h'
    next w h' =>
      exact ((bwWrite_meets dev deb true w).afterWriting (hd.of_ok h')).map fun _ hx => ⟨6, _, by decide, hx, rfl⟩

theorem bwFinish_meets (s : State) : Meets (Ended s) (fun x => x.2.host = s.host) (bwFinish s) := by
  unfold bwFinish
  split
  · exact rfl
  · exact raise_ended _ _ s

theorem finishEncode_ended (s : State) : Ended s (finishEncode s) := by
  unfold finishEncode
  split
  next h => exact (bwFinish_meets s).of_error h
  next h => exact (answerDone_ended _ _).of_host ((bwFinish_meets s).of_ok h)

theorem execTMatch_leads (lc : BitVec 8) (le lv dc de dv : Slot) (s : State) :
    Leads s (Packed s) (execTMatch lc le lv dc de dv s) := by
  have hp := packSymbol_meets (256 + lc.toNat) s
  unfold execTMatch
  dsimp only
  split
  next h => exact .of_ended (hp.of_error h)
  next h => exact .of_meets (packMatch_meets _ _ _ _ _ _ (hp.of_ok h))

theorem execElement_token_leads (i : Instr) (s : State) (h : (encode i).format = .token) :
    Leads s (Packed s) (execElement i s) := by
  cases i with
  | tLit b => exact .of_meets ((packSymbol_meets b.toNat s).map fun _ hx => ⟨1, _, by decide, hx, rfl⟩)
  | tEob => exact .of_ends ((packSymbol_meets 256 s).map fun u hu => (finishEncode_ended u).of_host hu.host)
  | tMatch lc le lv dc de dv => exact execTMatch_leads lc le lv dc de dv s
  | _ => cases h

theorem execElement_host {i : Instr} {s t : State} (h : execElement i s = .next t) : t.host = s.host := by
  by_cases hf : (encode i).format = .token
  · exact (execElement_token_leads i s hf).host h Packed.host
  · exact (execElement_leads i s hf).host h Onward.host

/-! ## Fetching -/

/-- What a fetch can find: an element of the stream, whose bits are consumed; a pattern of the fixed distance code that
is no symbol (R133); the entry of a BR.DECODE; the token at ENC.tokIndex. -/
inductive Fetched (s : State) : Raw × State → Prop
  | read {r : Raw} {u : State} (format : r.format ≠ .token) (consumed : Onward 1 s u) : Fetched s (r, u)
  | noSymbol {w : Nat} {u : State} (word : w = 30 ∨ w = 31) (loaded : Onward 0 s u) :
      Fetched s ({ format := .dist, word := w }, u)
  | entry (w : Nat) : Fetched s ({ format := .dte, word := w }, s)
  | token (w : Nat) (more : s.enc.tokIndex < s.tok.length) : Fetched s ({ format := .token, word := w }, s)

theorem Fetched.host {s : State} {x : Raw × State} (h : Fetched s x) : x.2.host = s.host := by
  cases h with
  | read _ consumed => exact consumed.host
  | noSymbol _ loaded => exact loaded.host
  | entry | token => rfl

theorem fetchFields_meets {f : Format} {n : Nat} (m : Nat) (s : State) (hn : 0 < n) :
    Meets (Ended s) (fun x => x.1.format = f ∧ Onward 1 s x.2) (fetchFields f n m s) := by
  have hlow := readBits_meets n s
  unfold fetchFields
  split
  next h => exact hlow.of_error h
  next u h =>
    have hhigh := (readBits_meets m u).after (hlow.of_ok h)
    split
    next h' => exact hhigh.of_error h'
    next h' => exact ⟨rfl, (hhigh.of_ok h').mono (by omega)⟩

theorem fetchCounts_meets (s : State) :
    Meets (Ended s) (fun x => x.1.format = .dynHdr ∧ Onward 1 s x.2) (fetchCounts s) := by
  have hlow := fetchFields_meets (f := .dynHdr) (n := 5) 5 s (by decide)
  unfold fetchCounts
  split
  next h => exact hlow.of_error h
  next r u h =>
    obtain ⟨format, consumed⟩ := hlow.of_ok h
    have hhigh := (readBits_meets 4 u).after consumed
    split
    next h' => exact hhigh.of_error h'
    next h' => exact ⟨format, (hhigh.of_ok h').mono (by omega)⟩

theorem fetchSymbol_meets (f : Format) (width : Nat) (t : DecodeTable) (extra : Nat → Nat) (s : State) :
    Meets (Ended s) (fun x => x.1.format = f ∧ Onward 1 s x.2) (fetchSymbol f width t extra s) := by
  have hsym := readSymbol_meets t s
  unfold fetchSymbol
  split
  next h => exact hsym.of_error h
  next sym u h =>
    have hextra := (readBits_meets (extra sym) u).after (hsym.of_ok h)
    split
    next h' => exact hextra.of_error h'
    next h' => exact ⟨rfl, (hextra.of_ok h').mono (by omega)⟩

/-- A fetch from the stream, after a preparation that consumes nothing. -/
theorem Meets.fetched {f : Format} {s u : State} {a : Act (Raw × State)}
    (h : Meets (Ended u) (fun x => x.1.format = f ∧ Onward 1 u x.2) a) (hf : f ≠ .token) (hu : Onward 0 s u) :
    Meets (Ended s) (Fetched s) a :=
  h.imp (fun _ ht => ht.of_host hu.host) fun _ ⟨format, consumed⟩ => .read (format ▸ hf) (hu.trans consumed)

theorem fetchDistance_meets (s : State) : Meets (Ended s) (Fetched s) (fetchDistance s) := by
  unfold fetchDistance
  dsimp only
  split
  · exact .noSymbol (by split <;> simp) (lookupEntry_onward _ s)
  · exact (fetchSymbol_meets ..).fetched (by decide) ⟨rfl, le_rfl⟩

theorem fetchToken_meets (s : State) : Meets (Ended s) (Fetched s) (fetchToken s) := by
  unfold fetchToken
  split
  · exact raise_ended _ _ s
  next h =>
    have more : s.enc.tokIndex < s.tok.length := by
      by_contra hn
      rw [List.drop_eq_nil_of_le (by omega)] at h
      cases h
    split
    · split
      · exact .token _ more
      · exact raise_ended _ _ s
    · exact .token _ more

theorem fetchElement_meets (s : State) : Meets (Ended s) (Fetched s) (fetchElement s) := by
  unfold fetchElement
  split
  next h => exact ⟨rfl, h⟩
  · exact .entry _
  · exact fetchToken_meets s
  · exact (fetchFields_meets 2 _ (by decide)).fetched (by decide) ((streamState_onward _ s).trans (tryStart_onward _))
  · exact (fetchFields_meets 16 _ (by decide)).fetched (by decide) ((tryStart_onward s).trans (align_onward _))
  · exact (fetchCounts_meets _).fetched (by decide) (tryStart_onward s)
  · exact (fetchSymbol_meets ..).fetched (by decide) ⟨rfl, le_rfl⟩
  · exact (fetchSymbol_meets ..).fetched (by decide) ((flushBlocks_onward s).trans (tryStart_onward _))
  · exact fetchDistance_meets s

/-! ## Turns -/

theorem illegalElement_ended (r : Raw) (s : State) : Ended s (illegalElement r s) := by
  unfold illegalElement
  split <;> exact raise_ended _ _ s

/-- A pattern of the fixed distance code that is no symbol ends the command (R133). -/
theorem noSymbol_leads {w : Nat} {i : Instr} {s : State} {R : State → Prop} (hw : w = 30 ∨ w = 31)
    (h : decode { format := .dist, word := w } = .ok i) : Leads s R (execElement i s) := by
  rcases hw with rfl | rfl <;> cases h <;> exact .of_ended (raise_ended _ _ s)

theorem execElement_dte_leads {i : Instr} {s : State} {R : State → Prop} (h : (encode i).format = .dte) :
    Leads s R (execElement i s) := by
  cases i with
  | dte cl sym => exact execDte_leads cl sym s R
  | _ => cases h

/-- A fetched element ends the command, or a bit or a slot is used up. -/
theorem Fetched.leads {s : State} {x : Raw × State} {i : Instr} (h : Fetched s x) (hi : decode x.1 = .ok i) :
    Leads s (Onward 1 s) (execElement i x.2) := by
  have hf := decode_format hi
  cases h with
  | read format consumed => exact (execElement_leads i _ (hf ▸ format)).after consumed
  | noSymbol word loaded => exact (noSymbol_leads word hi).after (m := 1) loaded
  | entry w => exact execElement_dte_leads hf
  | token w more => exact fun t ht => (execElement_token_leads i s hf t ht).imp_right (Packed.onward more)

/-- A turn ends the command, or a bit or a slot is used up. -/
theorem turn_leads (s : State) : Leads s (Onward 1 s) (turn s) := by
  have hf := fetchElement_meets s
  unfold turn
  split
  next h => exact .of_ended (hf.of_error h)
  next h =>
    have found := hf.of_ok h
    split
    next hi => exact found.leads hi
    next => exact .of_ended ((illegalElement_ended _ _).of_host found.host)

theorem runTurns_of_idle {s : State} (h : s.seq = .idle) (fuel : Nat) : runTurns fuel s = .next s := by
  cases fuel with
  | zero => rfl
  | succ fuel => simp [runTurns, h]

/-- More turns than there is work left end the command. -/
theorem runTurns_next {fuel : Nat} {s t : State} (h : runTurns fuel s = .next t) :
    t.host = s.host ∧ (s.workLeft < fuel → t.seq = .idle) := by
  induction fuel generalizing s with
  | zero => cases h; exact ⟨rfl, fun hw => absurd hw (Nat.not_lt_zero _)⟩
  | succ fuel ih =>
    rw [runTurns] at h
    split at h
    next hs => cases h; exact ⟨rfl, fun _ => hs⟩
    split at h
    next u hu =>
      rcases turn_leads s u hu with ended | on
      · rw [runTurns_of_idle ended.idle] at h
        cases h
        exact ⟨ended.host, fun _ => ended.idle⟩
      · obtain ⟨host, idle⟩ := ih h
        exact ⟨host.trans on.host, fun hw => idle (by have := on.work; omega)⟩
    next hn => exact (hn t h).elim

/-- The turns a command is given are more than the work left. -/
theorem workLeft_lt_turnBound (s : State) : s.workLeft < turnBound s := by
  simp only [State.workLeft, Reader.left, turnBound]; omega

/-! ## Commands -/

/-- The body of a command keeps what the host owns and, with command grain, leaves the core idle. -/
def Finishes (s : State) (o : Outcome) : Prop :=
  ∀ t, o = .next t → t.host = s.host ∧ (s.grain = .command → t.seq = .idle)

/-- A command that starts on an idle core does the same. -/
def Completes (s : State) (o : Outcome) : Prop :=
  ∀ t, o = .next t → t.host = s.host ∧ (s.grain = .command → s.seq = .idle → t.seq = .idle)

/-- An operation inside a command that may change anything but what the host owns. -/
def Keeps (s : State) : Act State → Prop := Meets (Ended s) (fun t => t.host = s.host)

theorem Keeps.after {s u : State} {a : Act State} (h : Keeps u a) (hu : u.host = s.host) : Keeps s a :=
  h.imp (fun _ ht => ht.of_host hu) (fun _ hx => hx.trans hu)

theorem Runs.keeps {s : State} {a : Act State} (h : Runs s a) : Keeps s a :=
  h.imp (fun _ ht => ht) (fun _ hx => hx.host)

theorem Finishes.of_ended {s t : State} (h : Ended s t) : Finishes s (.next t) := by
  rintro _ ⟨⟩; exact ⟨h.host, fun _ => h.idle⟩

theorem Finishes.of_ends {s : State} {a : Act State} (h : Meets (Ended s) (Ended s) a) : Finishes s (conclude a) := by
  cases a <;> exact .of_ended h

theorem Finishes.after {s u : State} {o : Outcome} (h : Finishes u o) (hu : u.host = s.host) : Finishes s o := by
  obtain ⟨-, -, -, grain⟩ := host_eq_iff.mp hu
  exact fun t ht => ⟨(h t ht).1.trans hu, fun hg => (h t ht).2 (grain.trans hg)⟩

theorem settle_finishes (s : State) : Finishes s (settle s) := by
  intro t h
  unfold settle at h
  split at h
  next => exact (runTurns_next h).imp_right fun idle _ => idle (workLeft_lt_turnBound s)
  next hg => cases h; exact ⟨rfl, fun hc => by rw [hg] at hc; cases hc⟩

/-- The command goes on with its turns unless it is over already. -/
theorem Keeps.settles {s : State} {a : Act State} (h : Keeps s a) :
    Finishes s (match (generalizing := false) a with | .error t => .next t | .ok u => settle u) := by
  cases a with
  | error t => exact .of_ended h
  | ok u => exact (settle_finishes u).after h

theorem withInput_finishes {s : State} {body : State → Outcome} (h : Finishes s (body s)) :
    Finishes s (withInput s body) := by
  unfold withInput
  split
  · exact h
  · rintro t ⟨⟩

theorem framed_completes {c : Bool} {s : State} {body : State → Outcome}
    (h : Finishes (beginCommand c s) (body (beginCommand c s))) : Completes s (framed c s body) := by
  intro t ht
  unfold framed at ht
  split at ht
  · cases ht; exact ⟨rfl, fun _ hs => hs⟩
  · exact (h t ht).imp_right fun idle hg _ => idle hg

/-! ### The bit writer and the bit reader -/

theorem brInit_keeps (s : State) : Keeps s (brInit s) := by
  unfold brInit
  split
  · exact rfl
  · exact raise_ended _ _ s

theorem execBwWrite_completes (value n : Nat) (reversed : Bool) (s : State) :
    Completes s (execBwWrite value n reversed s) := by
  refine framed_completes (.of_ends ?_)
  exact (bwWrite_meets value n reversed _).map fun u hu => (answer_ended _ u).of_host hu.host

theorem execBrInit_completes (s : State) : Completes s (execBrInit s) := by
  refine framed_completes (.of_ends ?_)
  exact Meets.map (brInit_keeps _) fun u hu => (answer_ended _ u).of_host hu

theorem execBwFinish_completes (s : State) : Completes s (execBwFinish s) := by
  refine framed_completes ?_
  split
  next h => exact .of_ended ((bwFinish_meets _).of_error h)
  next h => exact .of_ended ((answer_ended _ _).of_host ((bwFinish_meets _).of_ok h))

theorem execBrRead_completes (n : Nat) (s : State) : Completes s (execBrRead n s) := by
  refine framed_completes ?_
  split
  · exact .of_ended (raise_ended _ _ _)
  refine withInput_finishes ?_
  split
  next h => exact .of_ended (((readBits_meets n _).of_error h).of_host rfl)
  next h => exact .of_ended ((answer_ended _ _).of_host ((readBits_meets n _).of_ok h).host)

theorem execBrDecode_completes (t : DecodeTable) (s : State) : Completes s (execBrDecode t s) := by
  refine framed_completes ?_
  split
  · exact withInput_finishes ((settle_finishes _).after rfl)
  · exact .of_ended (raise_ended _ _ _)

theorem execBrRestore_completes (s : State) : Completes s (execBrRestore s) := by
  refine framed_completes ?_
  split
  · exact .of_ended ⟨rfl, rfl⟩
  · exact .of_ended (raise_ended _ _ _)

/-! ### The builders -/

theorem putLens_host (s : State) (a : Alphabet) (l : List Nat) : (s.putLens a l).host = s.host := by
  cases a <;> rfl

theorem putCodes_host (s : State) (a : Alphabet) (c : List Nat) : (s.putCodes a c).host = s.host := by
  cases a <;> rfl

theorem execHtbBuild_completes (a : TableArg) (s : State) : Completes s (execHtbBuild a s) := by
  refine framed_completes ?_
  split
  · exact .of_ended (raise_ended _ _ _)
  split
  · unfold buildTable
    cases htbBuild _ with
    | error i => exact .of_ended (raise_ended _ _ _)
    | ok x => exact .of_ended ⟨rfl, rfl⟩
  · exact .of_ended (raise_ended _ _ _)

theorem execCcbLengths_completes (a : TableArg) (limit : Nat) (s : State) : Completes s (execCcbLengths a limit s) := by
  refine framed_completes ?_
  split
  · split
    · exact .of_ended (raise_ended _ _ _)
    split
    · exact .of_ended (raise_ended _ _ _)
    cases a with
    | lit l => exact .of_ended (answer_ended _ _)
    | reg al => exact .of_ended ((answer_ended _ _).of_host (putLens_host _ _ _))
  · exact .of_ended (raise_ended _ _ _)

theorem execCcbCodes_completes (a : TableArg) (s : State) : Completes s (execCcbCodes a s) := by
  refine framed_completes ?_
  split
  · exact .of_ended (raise_ended _ _ _)
  split
  · split
    · exact .of_ended (raise_ended _ _ _)
    cases a with
    | lit l => exact .of_ended (answer_ended _ _)
    | reg al => exact .of_ended ((answer_ended _ _).of_host (putCodes_host _ _ _))
  · exact .of_ended (raise_ended _ _ _)

theorem execCcbRle_completes (src : List Nat) (s : State) : Completes s (execCcbRle src s) := by
  refine framed_completes ?_
  split
  · exact .of_ended ⟨rfl, rfl⟩
  · exact .of_ended (raise_ended _ _ _)

/-! ### The encoder -/

theorem writeFields_keeps (fields : List (Nat × Nat)) (s : State) : Keeps s (writeFields fields s) := by
  induction fields generalizing s with
  | nil => exact rfl
  | cons field rest ih =>
    obtain ⟨v, n⟩ := field
    have hw := bwWrite_meets v n true s
    rw [writeFields]
    split
    next h => exact hw.of_error h
    next h => exact (ih _).after (hw.of_ok h).host

theorem storedBlock_keeps (last : Bool) (chunk : List Byte) (s : State) : Keeps s (storedBlock last chunk s) := by
  have hw := writeFields_keeps [(last.toNat, 1), (0, 2)] s
  unfold storedBlock
  split
  next h => exact hw.of_error h
  next h => exact (writeFields_keeps _ _).after (hw.of_ok h)

theorem enc_host (e : Enc) (s : State) : State.host { s with enc := e } = s.host := rfl

theorem storedBlocks_keeps (fuel : Nat) (data : List Byte) (s : State) : Keeps s (storedBlocks fuel data s) := by
  induction fuel generalizing data s with
  | zero => exact rfl
  | succ fuel ih =>
    have hb := storedBlock_keeps (decide (data.length ≤ Config.storedMax)) (data.take Config.storedMax) s
    rw [storedBlocks]
    dsimp only
    split
    next h => exact hb.of_error h
    next u h =>
      have hu := hb.of_ok h
      split
      · exact (enc_host _ u).trans hu
      · exact (ih _ _).after ((enc_host _ u).trans hu)

theorem buildCodes_keeps (a : Alphabet) (limit : Nat) (s : State) : Keeps s (buildCodes a limit s) := by
  unfold buildCodes
  split
  · exact raise_ended _ _ s
  split
  · exact raise_ended _ _ s
  · exact (putCodes_host _ _ _).trans (putLens_host _ _ _)

theorem ccbRle_host (src : List Nat) (s : State) : (ccbRle src s).host = s.host := rfl

theorem dynamicTables_keeps (s : State) : Keeps s (dynamicTables s) := by
  have hll := buildCodes_keeps .litLen Config.limitLitLen s
  unfold dynamicTables
  split
  next h => exact hll.of_error h
  next u h =>
    have hd := (buildCodes_keeps .dist Config.limitDist u).after (hll.of_ok h)
    split
    next h' => exact hd.of_error h'
    next v h' =>
      dsimp only
      split
      next h'' => exact (((buildCodes_keeps _ _ _).after (ccbRle_host _ v)).of_error h'').of_host (hd.of_ok h')
      next h'' => exact (((buildCodes_keeps _ _ _).after (ccbRle_host _ v)).of_ok h'').trans (hd.of_ok h')

/-- Packing begins: ENC.tokIndex and the sequencer are set. -/
theorem Keeps.startPacking {s : State} {a : Act State} (h : Keeps s a) : Keeps s (a.map startPacking) :=
  Meets.map h fun _ hu => hu

theorem startFixed_keeps (s : State) : Keeps s (startFixed s) := by
  unfold startFixed
  exact ((writeFields_keeps _ (useFixedCodes (lzmRun (bwInit s)))).after (s := s) rfl).startPacking

theorem startDynamic_keeps (s : State) : Keeps s (startDynamic s) := by
  have ht := (dynamicTables_keeps (lzmRun (bwInit s))).after (s := s) rfl
  unfold startDynamic
  split
  next h => exact ht.of_error h
  next h => exact ((writeFields_keeps _ _).after (ht.of_ok h)).startPacking

theorem execEncStored_completes (s : State) : Completes s (execEncStored s) :=
  framed_completes <| .of_ends <| Meets.map ((storedBlocks_keeps _ _ _).after rfl) fun u hu =>
    (finishEncode_ended u).of_host hu

theorem execEncFixed_completes (s : State) : Completes s (execEncFixed s) :=
  framed_completes (startFixed_keeps _).settles

theorem execEncDynamic_completes (s : State) : Completes s (execEncDynamic s) :=
  framed_completes (startDynamic_keeps _).settles

/-! ### The decoders -/

theorem startDecode_keeps (job : Job) (s : State) : Keeps s (startDecode job s) :=
  Meets.map (brInit_keeps s) fun _ hu => hu

theorem execDecBlock_completes (s : State) : Completes s (execDecBlock s) :=
  framed_completes (startDecode_keeps .block _).settles

theorem execDecAdaptive_completes (s : State) : Completes s (execDecAdaptive s) :=
  framed_completes (startDecode_keeps .adaptive _).settles

theorem appendChunk_host (chunk : Option (List Byte)) (s : State) : (appendChunk chunk s).host = s.host := by
  cases chunk <;> rfl

theorem firstCall_keeps (startOffset : Option Nat) (s : State) : Keeps s (firstCall startOffset s) := by
  unfold firstCall
  split
  · exact rfl
  dsimp only
  split
  · exact rfl
  split
  · exact ⟨rfl, rfl⟩
  · exact rfl

theorem streamAt_onward (ph : Phase) (s : State) : Onward 0 s (streamAt ph s) := ⟨rfl, le_rfl⟩

theorem dispatch_keeps (s : State) : Keeps s (dispatch s) := by
  have before (x : SdecState) (ph : Phase) : Onward 0 s ((streamAt ph s).streamState x) :=
    (streamAt_onward ph s).trans (streamState_onward x _)
  unfold dispatch
  split
  case h_1 | h_2 => exact (streamAt_onward _ s).host
  case h_3 | h_4 =>
    split
    · exact (before _ _).host
    · exact ((before _ _).trans (dec_onward _ _)).host
    · exact (before _ _).host
    · exact raise_ended _ _ s
  case h_5 | h_6 =>
    split
    · exact ((storedBody_runs _).after (before _ _)).keeps
    · exact (before _ _).host
  case h_7 => exact ((streamAt_onward _ s).trans (endBlock_onward _)).host

theorem streamCall_finishes (chunk : Option (List Byte)) (startOffset : Option Nat) (s : State) :
    Finishes s (streamCall chunk startOffset s) := by
  unfold streamCall
  split
  · exact .of_ended (answer_ended _ _)
  refine withInput_finishes ?_
  have hc := (firstCall_keeps startOffset _).after (appendChunk_host chunk s)
  split
  next h => exact .of_ended (hc.of_error h)
  next u h => exact ((dispatch_keeps u).after (hc.of_ok h)).settles

/-! ### RD.CONSUMED, illegal words, all commands -/

theorem execRdConsumed_completes (s : State) : Completes s (execRdConsumed s) := by
  unfold execRdConsumed
  split <;> (rintro t ⟨⟩; exact ⟨rfl, fun _ hs => hs⟩)

theorem illegalCommand_completes (e : DecodeError) (s : State) : Completes s (illegalCommand e s) :=
  framed_completes (.of_ended ⟨rfl, rfl⟩)

/-- Every command but RESET keeps what the host owns and ends idle. -/
theorem exec_command_completes (i : Instr) (s : State) (h : (encode i).format = .cmd) (hr : i ≠ .reset) :
    Completes s (exec i s) := by
  cases i with
  | reset => exact absurd rfl hr
  | bwInit | brAlign | brSave | lzmRun | sdecInit =>
    dsimp only [exec]
    refine framed_completes ?_
    exact .of_ended ⟨rfl, rfl⟩
  | bwWrite v n r => exact execBwWrite_completes v n r s
  | brInit => exact execBrInit_completes s
  | bwFinish => exact execBwFinish_completes s
  | brRead n => exact execBrRead_completes n s
  | brDecode t => exact execBrDecode_completes t s
  | brRestore => exact execBrRestore_completes s
  | htbBuild a => exact execHtbBuild_completes a s
  | ccbLengths a l => exact execCcbLengths_completes a l s
  | ccbCodes a => exact execCcbCodes_completes a s
  | ccbRle q => exact execCcbRle_completes q s
  | encStored => exact execEncStored_completes s
  | encFixed => exact execEncFixed_completes s
  | encDynamic => exact execEncDynamic_completes s
  | decBlock => exact execDecBlock_completes s
  | decAdaptive => exact execDecAdaptive_completes s
  | sdecCall c f => exact framed_completes (streamCall_finishes c f _)
  | rdConsumed => exact execRdConsumed_completes s
  | _ => cases h

theorem exec_host {i : Instr} {s t : State} (h : exec i s = .next t) (hr : i ≠ .reset) : t.host = s.host := by
  by_cases hf : (encode i).format = .cmd
  · exact (exec_command_completes i s hf hr t h).1
  · exact execElement_host (exec_eq_execElement i s hf ▸ h)

/-! ## The step -/

theorem accept_params_grain (it : Issue) (rest : List Issue) (s : State) :
    (accept it rest s).params = s.params ∧ (accept it rest s).grain = s.grain := by
  unfold accept
  dsimp only
  split <;> exact ⟨rfl, rfl⟩

/-- No command changes the parameters, RESET included (R372). -/
theorem runCommand_params_grain {it : Issue} {s t : State} (h : runCommand it s = .next t) :
    t.params = s.params ∧ t.grain = s.grain := by
  unfold runCommand at h
  split at h
  next i _ =>
    by_cases hr : i = .reset
    · subst hr; cases h; exact ⟨rfl, rfl⟩
    · exact (host_eq_iff.mp (exec_host h hr)).2.2
  next e _ => exact (host_eq_iff.mp (illegalCommand_completes e s t h).1).2.2

theorem runElement_host {s t : State} (h : runElement s = .next t) : t.host = s.host :=
  (turn_leads s).host (runElement_eq_turn s ▸ h) Onward.host

theorem step_params_grain {s t : State} (h : step s = .next t) : t.params = s.params ∧ t.grain = s.grain := by
  by_cases hs : s.seq = .idle
  · cases hp : s.port with
    | nil => rw [step_idle hs hp] at h; cases h; exact ⟨rfl, rfl⟩
    | cons it rest =>
      rw [step_command hs hp] at h
      obtain ⟨params, grain⟩ := runCommand_params_grain h
      obtain ⟨params', grain'⟩ := accept_params_grain it rest s
      exact ⟨params.trans params', grain.trans grain'⟩
  · rw [step_busy hs] at h
    exact (host_eq_iff.mp (runElement_host h)).2.2

/-- Settles O6: every operation keeps what the host owns, and RESET and `accept` keep the parameters. -/
theorem onlyResetWritesTheConfiguration : Obligations.OnlyResetWritesTheConfiguration := by
  refine ⟨fun i s t h hr => ?_, fun s t => step_params_grain⟩
  obtain ⟨cfg, port, -⟩ := host_eq_iff.mp (exec_host h hr)
  exact ⟨cfg, port⟩

/-- Settles O11: every turn uses up a bit of the input or a slot of TOK or ends the command, and a command is given more
turns than there are bits and slots. -/
theorem commandsRunToCompletion : Obligations.CommandsRunToCompletion := by
  intro i s t hf hg hs h
  by_cases hr : i = .reset
  · subst hr; cases h; rfl
  · exact (exec_command_completes i s hf hr t h).2 hg hs

end Sys2Proof.Machine
end

section
/-! PROOFS. What a step keeps (R22, R29, R153, R382). Every shared operation either takes a fault (`State.Halted`) or
goes on in a state that differs outside a given view of the state only, and that keeps the bounds of the reader, the
writer and the tables (`Works`). The invariant and the frames of IN and of the elements are two readings of that one
fact. -/

namespace Sys2Proof.Machine

/-! ## Sound states, halted states -/

/-- No fault is recorded, and every bound of the invariant holds. -/
structure State.Sound (s : State) : Prop where
  clear  : s.status.fault = none
  inMem  : s.inMem.wf = true
  outMem : s.bw.out.wf = true
  reader : s.br.bounded
  writer : s.bw.bounded
  tables : s.tablesBounded

/-- A fault has just been taken: the core is idle and its memories are canonical (R332, U1). -/
structure State.Halted (s : State) : Prop where
  fault  : s.status.fault ≠ none
  idle   : s.seq = .idle
  inMem  : s.inMem.wf = true
  outMem : s.bw.out.wf = true

theorem State.Sound.inv {s : State} (h : s.Sound) : s.Inv :=
  ⟨h.inMem, h.outMem, fun hf => absurd h.clear hf, fun _ => h.reader, fun _ => h.writer, fun _ => h.tables⟩

theorem State.Halted.inv {s : State} (h : s.Halted) : s.Inv :=
  ⟨h.inMem, h.outMem, fun _ => h.idle, fun hf => absurd hf h.fault, fun hf => absurd hf h.fault,
    fun hf => absurd hf h.fault⟩

theorem State.Inv.sound {s : State} (h : s.Inv) (hf : s.status.fault = none) : s.Sound :=
  ⟨hf, h.inMem, h.outMem, h.reader hf, h.writer hf, h.tables hf⟩

theorem raise_halted (f : FaultCode) (info : Nat) (s : State) : (raise f info s).Halted :=
  ⟨Option.some_ne_none f, rfl, (raise_wf f info s).1, (raise_wf f info s).2⟩

/-- A fresh core meets every bound (R41). -/
theorem State.fresh_sound (p : Config.Params) : (State.fresh p).Sound where
  clear := rfl
  inMem := rfl
  outMem := rfl
  reader := by simp [Reader.bounded, State.fresh]
  writer := by simp [Writer.bounded, State.fresh]
  tables := by simp [State.tablesBounded, State.fresh, emptyTable]

/-- Settles O9: a fresh core meets every bound. -/
theorem resetMeetsTheInvariant : Obligations.ResetMeetsTheInvariant := (State.fresh_sound _).inv

/-! ## Views of the state -/

/-- What every element leaves alone (R43, R382): all but the reader's cursor, the decoder's registers, STATUS, the
result and the sequencer; of the decoder's tables DEC.cl counts as left alone. -/
def State.untouched (s : State) : State :=
  { s with
    br := { (default : Reader) with inputLength := s.br.inputLength }
    dec := { (default : Dec) with cl := s.dec.cl }
    sdec := default, status := { fault := none, faultInfo := 0, done := false, needInput := false }
    result := .none, seq := .idle }

/-- What a code-length symbol leaves alone, which may build tables. -/
def State.besideBuilder (s : State) : State := { s.untouched with htb := default }

/-- What a dynamic header leaves alone. -/
def State.besideHeader (s : State) : State := { s.untouched with htb := default, lenCL := default, dec := default }

/-- The operation goes on: what the view shows is as it was, and a sound state stays sound. -/
structure Works {β : Type} (view : State → β) (s t : State) : Prop where
  same  : view t = view s
  sound : s.Sound → t.Sound

/-- Where an operation can lead. -/
def Lands {β : Type} (view : State → β) (s t : State) : Prop := t.Halted ∨ Works view s t

section
variable {β γ : Type} {view : State → β} {s t u : State}

theorem Works.refl (view : State → β) (s : State) : Works view s s := ⟨rfl, id⟩

theorem Works.trans (h : Works view s t) (h' : Works view t u) : Works view s u :=
  ⟨h'.same.trans h.same, h'.sound ∘ h.sound⟩

theorem Works.lands (h : Works view s t) (h' : Lands view t u) : Lands view s u := h'.imp_right h.trans

/-- A view that shows less. -/
theorem Works.coarsen {view' : State → γ} (h : Works view s t) (g : β → γ)
    (hg : ∀ s, view' s = g (view s) := by exact fun _ => rfl) : Works view' s t := ⟨by rw [hg, hg, h.same], h.sound⟩

theorem Works.builder (h : Works State.untouched s t) : Works State.besideBuilder s t :=
  h.coarsen fun u => { u with htb := default }

theorem Works.header (h : Works State.besideBuilder s t) : Works State.besideHeader s t :=
  h.coarsen fun u => { u with lenCL := default, dec := default }

theorem Works.inv (h : Works view s t) (hs : s.Sound) : t.Inv := (h.sound hs).inv

theorem Lands.inv (h : Lands view s t) (hs : s.Sound) : t.Inv := h.elim State.Halted.inv fun h => h.inv hs

/-- No fault recorded: the operation has gone on. -/
theorem Lands.works (h : Lands view s t) (hf : t.status.fault = none) : Works view s t :=
  h.resolve_left fun ht => ht.fault hf

theorem Lands.raise (f : FaultCode) (info : Nat) (t : State) : Lands view s (raise f info t) :=
  .inl (raise_halted f info t)

/-- An operation inside a command that reads something: it may end the command, or it answers and goes on. -/
def Reads {α : Type} (view : State → β) (s : State) : Act (α × State) → Prop :=
  Meets (Lands view s) fun x => Works view s x.2

/-- An operation inside a command: it may end the command, or it goes on. -/
def Proceeds (view : State → β) (s : State) : Act State → Prop := Meets (Lands view s) (Works view s)

theorem Reads.following {α : Type} {a : Act (α × State)} (h : Reads view t a) (hw : Works view s t) : Reads view s a :=
  h.imp (fun _ => hw.lands) fun _ => hw.trans

theorem Proceeds.following {a : Act State} (h : Proceeds view t a) (hw : Works view s t) : Proceeds view s a :=
  h.imp (fun _ => hw.lands) fun _ => hw.trans

theorem Proceeds.map {a : Act State} {f : State → State} (h : Proceeds view s a) (hf : ∀ u, Works view u (f u)) :
    Proceeds view s (a.map f) := Meets.map h fun u hu => hu.trans (hf u)

theorem Lands.coarsen {view' : State → γ} (h : Lands view s t) (g : β → γ)
    (hg : ∀ s, view' s = g (view s) := by exact fun _ => rfl) : Lands view' s t := h.imp_right fun h => h.coarsen g hg

theorem Proceeds.coarsen {view' : State → γ} {a : Act State} (h : Proceeds view s a) (g : β → γ)
    (hg : ∀ s, view' s = g (view s) := by exact fun _ => rfl) : Proceeds view' s a :=
  h.imp (fun _ h => h.coarsen g hg) fun _ h => h.coarsen g hg

theorem Proceeds.builder {a : Act State} (h : Proceeds State.untouched s a) : Proceeds State.besideBuilder s a :=
  h.coarsen fun u => { u with htb := default }

end

/-! ## The reader -/

theorem Works.reader {s : State} {r : Reader} (length : r.inputLength = s.br.inputLength)
    (bounded : s.Sound → r.bounded) : Works State.untouched s { s with br := r } :=
  ⟨by simp [State.untouched, length], fun h => ⟨h.clear, h.inMem, h.outMem, bounded h, h.writer, h.tables⟩⟩

theorem refill_works {n : Nat} (hn : n ≤ 16) (m : Memory) (fuel : Nat) (s : State) :
    Works State.untouched s { s with br := s.br.refill m n fuel } :=
  .reader (Reader.refill_frame m n fuel s.br).1 fun h => Reader.refill_bounded m n fuel s.br hn h.reader

theorem drop_works (n : Nat) (s : State) : Works State.untouched s { s with br := s.br.drop n } :=
  .reader rfl fun h => Reader.drop_bounded n s.br h.reader

theorem align_works (s : State) : Works State.untouched s { s with br := s.br.align } := drop_works _ s

theorem tryStart_works (s : State) : Works State.untouched s (tryStart s) := by
  unfold tryStart
  split
  · exact .reader rfl fun h => Reader.keep_bounded s.br h.reader
  · exact .refl _ s

/-- A suspended call comes back to the saved cursor (R304). -/
theorem suspend_works (s : State) : Works State.untouched s (suspend s) := by
  refine ⟨rfl, fun h => ⟨h.clear, h.inMem, h.outMem, Reader.back_bounded _ h.reader, h.writer, ?_⟩⟩
  obtain ⟨built, ll, d, cl, -⟩ := h.tables
  exact ⟨built, ll, d, cl, fun _ hl => nomatch hl⟩

/-- STATUS without a fault, the result, the sequencer and the streaming registers carry no bound. -/
theorem Works.ends {s : State} {st : Status} {r : Result} {q : Seq} {x : Sdec} (hst : st.fault = s.status.fault) :
    Works State.untouched s { s with status := st, result := r, seq := q, sdec := x } :=
  ⟨rfl, fun h => ⟨hst.trans h.clear, h.inMem, h.outMem, h.reader, h.writer, h.tables⟩⟩

theorem answer_works (r : Result) (s : State) : Works State.untouched s (answer r s) := .ends rfl

theorem needInput_works (s : State) : Works State.untouched s (needInput s) := .ends rfl

theorem exhausted_lands (s : State) : Lands State.untouched s (exhausted s) := by
  unfold exhausted
  split
  · exact .inr (suspend_works s)
  · exact .raise _ _ s
  · exact .inr (.ends rfl)

theorem readBits_reads {n : Nat} (hn : n ≤ 16) (s : State) : Reads State.untouched s (readBits n s) := by
  have hr := refill_works hn s.inMem n s
  rcases readBits_cases n s with ⟨v, -, h⟩ | h <;> rw [h]
  · exact hr.trans (drop_works n _)
  · exact hr.lands (exhausted_lands _)

theorem readBits_value_lt {n v : Nat} {s u : State} (h : readBits n s = .ok (v, u)) : v < 2 ^ n := by
  rcases readBits_cases n s with ⟨w, hw, h'⟩ | h' <;> rw [h'] at h <;> cases h
  exact hw

theorem consumeEntry_reads (index maxLen cl sym : Nat) (s : State) :
    Reads State.untouched s (consumeEntry index maxLen cl sym s) := by
  rcases consumeEntry_cases index maxLen cl sym s with ⟨-, -, h⟩ | h | ⟨-, -, h⟩ <;> rw [h]
  · exact drop_works cl s
  · exact exhausted_lands s
  · exact .raise _ _ s

/-- A table of a sound state is indexed by at most 15 bits, so that loading for it keeps the width law (R153). -/
theorem lookupEntry_works {t : DecodeTable} {s : State} (ht : s.Sound → t.maxLen ≤ 15) :
    Works State.untouched s (lookupEntry t s).2.2 :=
  .reader (Reader.refill_frame ..).1 fun h => Reader.refill_bounded _ _ _ _ ((ht h).trans (by decide)) h.reader

theorem readSymbol_reads {t : DecodeTable} {s : State} (ht : s.Sound → t.maxLen ≤ 15) :
    Reads State.untouched s (readSymbol t s) :=
  (consumeEntry_reads ..).following (lookupEntry_works ht)

/-- The code-length lengths are 3-bit numbers (R270). -/
theorem readClLengths_reads (order lens : List Nat) (s : State) (hl : ∀ l ∈ lens, l ≤ 7) :
    Meets (Lands State.untouched s) (fun x => Works State.untouched s x.2 ∧ ∀ l ∈ x.1, l ≤ 7)
      (readClLengths order lens s) := by
  induction order generalizing lens s with
  | nil => exact ⟨.refl _ s, hl⟩
  | cons sym order ih =>
    have bits := readBits_reads (n := 3) (by decide) s
    rw [readClLengths]
    split
    next h => exact bits.of_error h
    next v u h =>
      have hv := readBits_value_lt h
      have hset : ∀ l ∈ lens.set sym v, l ≤ 7 := fun l hm =>
        (List.mem_or_eq_of_mem_set hm).elim (hl l) fun e => by omega
      exact (ih _ u hset).imp (fun _ => (bits.of_ok h).lands) fun _ ⟨hw, hx⟩ => ⟨(bits.of_ok h).trans hw, hx⟩

/-! ## Output and the ends of a block -/

theorem State.Sound.decoder {s : State} {d : Dec} (h : s.Sound) (ll : d.ll.maxLen ≤ 15) (dist : d.d.maxLen ≤ 15)
    (cl : d.cl.maxLen ≤ 15) (lens : ∀ l ∈ d.hdr.lens, l ≤ 15) : State.Sound { s with dec := d } :=
  ⟨h.clear, h.inMem, h.outMem, h.reader, h.writer, h.tables.1, ll, dist, cl, lens⟩

/-- A change of the decoder's registers that leaves its tables and its header's lengths alone. -/
theorem Works.decoder {s : State} {d : Dec} (ll : d.ll = s.dec.ll) (dist : d.d = s.dec.d) (cl : d.cl = s.dec.cl)
    (lens : d.hdr.lens = s.dec.hdr.lens) : Works State.untouched s { s with dec := d } where
  same := by simp [State.untouched, cl]
  sound h := by
    obtain ⟨-, hll, hd, hcl, hlens⟩ := h.tables
    exact h.decoder (ll ▸ hll) (dist ▸ hd) (cl ▸ hcl) (lens ▸ hlens)

theorem Works.sequencer {s : State} {q : Seq} : Works State.untouched s { s with seq := q } := .ends rfl

theorem goto_works (ph : Phase) (s : State) : Works State.untouched s (s.goto ph) := by
  unfold State.goto
  split <;> exact .sequencer

theorem streamState_works (x : SdecState) (s : State) : Works State.untouched s (s.streamState x) := by
  unfold State.streamState
  split
  · exact .ends rfl
  · exact .refl _ s

theorem flushBlocks_works (s : State) : Works State.untouched s (flushBlocks s) := by
  unfold flushBlocks
  split
  · dsimp only
    split
    · exact .decoder rfl rfl rfl rfl
    · exact .refl _ s
  · exact .refl _ s

theorem emit_proceeds (b : Byte) (s : State) : Proceeds State.untouched s (emit b s) := by
  rcases emit_cases b s with h | ⟨-, -, h⟩ <;> rw [h]
  · exact Works.decoder rfl rfl rfl rfl
  · exact .raise _ _ s

theorem copyMatch_proceeds (d n : Nat) (s : State) : Proceeds State.untouched s (copyMatch d n s) := by
  rcases copyMatch_cases d n s with ⟨bs, -, h⟩ | ⟨t, info, h⟩ <;> rw [h]
  · exact Works.decoder rfl rfl rfl rfl
  · exact .raise _ _ t

theorem endBlock_works (s : State) : Works State.untouched s (endBlock s) := by
  have hs := streamState_works .decodeBlockEnd s
  unfold endBlock
  dsimp only
  split
  · refine hs.trans ?_
    split <;> exact .ends rfl
  · exact hs.trans ((streamState_works .initialized _).trans (goto_works .blkHdr _))

theorem copyStored_proceeds (n : Nat) (s : State) : Proceeds State.untouched s (copyStored n s) := by
  induction n generalizing s with
  | zero => exact Works.refl _ s
  | succ n ih =>
    have bits := (readBits_reads (n := 8) (by decide) (flushBlocks s)).following (flushBlocks_works s)
    rw [copyStored]
    split
    · exact .inr (needInput_works s)
    split
    next h => exact bits.of_error h
    next v u h =>
      have he := (emit_proceeds (BitVec.ofNat 8 v) u).following (bits.of_ok h)
      split
      next h' => exact he.of_error h'
      next h' => exact (ih _).following ((he.of_ok h').trans (.decoder rfl rfl rfl rfl))

theorem storedBody_proceeds (s : State) : Proceeds State.untouched s (storedBody s) := by
  unfold storedBody
  split
  · exact .raise _ _ s
  · exact (copyStored_proceeds _ s).map endBlock_works

theorem takeLength_works (length : Nat) (s : State) : Works State.untouched s (takeLength length s) :=
  (Works.decoder (d := { s.dec with matchLen := length }) rfl rfl rfl rfl).trans (goto_works .dist _)

theorem takeDistance_proceeds (distance : Nat) (s : State) : Proceeds State.untouched s (takeDistance distance s) := by
  unfold takeDistance
  split
  · exact .raise _ _ s
  · exact (copyMatch_proceeds _ _ s).map (goto_works .litLen)

theorem blockHeader_works (bfinal : Bool) (btype : BType) (s : State) :
    Works State.untouched s (blockHeader bfinal btype s) :=
  (Works.decoder (d := { s.dec with bfinal := bfinal, btype := btype }) rfl rfl rfl rfl).trans
    (streamState_works .blockHeaderEnd _)

/-! ## Decode tables (R29, R161) -/

theorem foldl_max_le {b m : Nat} {l : List Nat} (hm : m ≤ b) (hl : ∀ x ∈ l, x ≤ b) : l.foldl max m ≤ b := by
  induction l generalizing m with
  | nil => exact hm
  | cons x l ih => exact ih (max_le hm (hl x (by simp))) fun y hy => hl y (by simp [hy])

/-- A table is indexed by as many bits as its longest code has. -/
theorem htbBuild_maxLen {lens : List Nat} {t : DecodeTable} {c b : Nat} (h : htbBuild lens = .ok (t, c))
    (hl : ∀ l ∈ lens, l ≤ b) : t.maxLen ≤ b := by
  unfold htbBuild at h
  dsimp only at h
  split at h <;> cases h
  exact foldl_max_le (Nat.zero_le b) hl

theorem romTable_maxLen {lens : List Nat} {b : Nat} (hl : ∀ l ∈ lens, l ≤ b) : (romTable lens).maxLen ≤ b := by
  unfold romTable
  split
  next h => exact htbBuild_maxLen h hl
  next => exact Nat.zero_le b

theorem fixedLitLens_le {l : Nat} (h : l ∈ fixedLitLens) : l ≤ 9 := by
  simp only [fixedLitLens, List.mem_append, List.mem_replicate] at h; omega

theorem fixedDistLens_le {l : Nat} (h : l ∈ fixedDistLens) : l ≤ 5 := by
  simp only [fixedDistLens, List.mem_replicate] at h; omega

theorem fixedLitLenTable_maxLen : fixedLitLenTable.maxLen ≤ 9 := by
  unfold fixedLitLenTable
  exact romTable_maxLen fun _ => fixedLitLens_le

theorem fixedDistTable_maxLen : fixedDistTable.maxLen ≤ 5 := by
  unfold fixedDistTable
  exact romTable_maxLen fun _ => fixedDistLens_le

theorem useFixedTables_works (s : State) : Works State.untouched s (useFixedTables s) where
  same := rfl
  sound h := by
    obtain ⟨-, -, -, hcl, hlens⟩ := h.tables
    exact h.decoder (fixedLitLenTable_maxLen.trans (by decide)) (fixedDistTable_maxLen.trans (by decide)) hcl hlens

theorem Works.working {s : State} {b : Builder} : Works State.besideBuilder s { s with htb := b } :=
  ⟨rfl, fun h => ⟨h.clear, h.inMem, h.outMem, h.reader, h.writer, h.tables⟩⟩

/-- A table built inside a dynamic header changes HTB's working registers only. -/
theorem buildHeaderTable_builds (lens : List Nat) (s : State) :
    Meets (Lands State.besideBuilder s)
      (fun x => (∃ b, x.2 = { s with htb := b }) ∧ ∀ b, (∀ l ∈ lens, l ≤ b) → x.1.maxLen ≤ b)
      (buildHeaderTable lens s) := by
  unfold buildHeaderTable buildTable
  cases h : htbBuild lens with
  | error i => exact .raise _ _ s
  | ok x => exact ⟨⟨_, rfl⟩, fun b hl => htbBuild_maxLen h hl⟩

/-! ## Dynamic headers (R270) -/

theorem finishHeader_proceeds (s : State) : Proceeds State.besideBuilder s (finishHeader s) := by
  have hll := buildHeaderTable_builds (s.dec.hdr.lens.take s.dec.hdr.hlit) s
  unfold finishHeader
  split
  next h => exact hll.of_error h
  next ll u h =>
    obtain ⟨⟨b, rfl⟩, hll⟩ := hll.of_ok h
    have hd := buildHeaderTable_builds ((s.dec.hdr.lens.drop s.dec.hdr.hlit).take s.dec.hdr.hdist) { s with htb := b }
    split
    next h' => exact Works.working.lands (hd.of_error h')
    next d v h' =>
      obtain ⟨⟨b', rfl⟩, hd⟩ := hd.of_ok h'
      have tables : Works State.besideBuilder s { s with htb := b', dec := { s.dec with ll := ll, d := d } } :=
        ⟨rfl, fun hs => by
          obtain ⟨-, -, -, hcl, hlens⟩ := hs.tables
          exact ((Works.working (b := b')).sound hs).decoder (d := { s.dec with ll := ll, d := d })
            (hll 15 fun l hl => hlens l (List.mem_of_mem_take hl))
            (hd 15 fun l hl => hlens l (List.mem_of_mem_drop (List.mem_of_mem_take hl))) hcl hlens⟩
      exact tables.trans ((streamState_works .decodeBlockStart _).trans (goto_works .litLen _)).builder

theorem headerTurn_proceeds (s : State) : Proceeds State.besideBuilder s (headerTurn s) := by
  unfold headerTurn
  split
  · exact (goto_works .clSym s).builder
  · exact finishHeader_proceeds s

/-- The lengths read so far change. -/
theorem Works.lengths {s : State} {lens : List Nat} (h : s.Sound → ∀ l ∈ lens, l ≤ 15) :
    Works State.untouched s { s with dec := { s.dec with hdr := { s.dec.hdr with lens := lens } } } where
  same := rfl
  sound hs := by
    obtain ⟨-, hll, hd, hcl, -⟩ := hs.tables
    exact hs.decoder hll hd hcl (h hs)

/-- Lengths in range join those read so far. -/
theorem Works.append {s : State} {new : List Nat} (h : s.Sound → ∀ l ∈ new, l ≤ 15) :
    Works State.untouched s
      { s with dec := { s.dec with hdr := { s.dec.hdr with lens := s.dec.hdr.lens ++ new } } } :=
  .lengths fun hs l hl => (List.mem_append.mp hl).elim (hs.tables.2.2.2.2 l) (h hs l)

theorem appendLength_proceeds {v : Nat} (hv : v ≤ 15) (s : State) :
    Proceeds State.besideBuilder s (appendLength v s) :=
  (headerTurn_proceeds _).following (Works.append fun _ _ hl => List.mem_singleton.mp hl ▸ hv).builder

theorem appendRepeat_proceeds (rep : Nat) {v : Nat} {s : State} (hv : s.Sound → v ≤ 15) :
    Proceeds State.besideBuilder s (appendRepeat rep v s) := by
  unfold appendRepeat
  split
  · exact .raise _ _ s
  · exact (headerTurn_proceeds _).following
      (Works.append fun hs l hl => List.eq_of_mem_replicate hl ▸ hv hs).builder

theorem dynamicHeader_proceeds (hlit hdist hclen : Nat) (s : State) :
    Proceeds State.besideHeader s (dynamicHeader hlit hdist hclen s) := by
  have hcl := readClLengths_reads (clOrder.take hclen) (List.replicate Config.nCl 0) s (by decide)
  unfold dynamicHeader
  split
  · exact .raise _ _ s
  split
  · exact .raise _ _ s
  split
  next h => exact (hcl.of_error h).coarsen fun u => { u with htb := default, lenCL := default, dec := default }
  next lens u h =>
    obtain ⟨hu, hlens⟩ := hcl.of_ok h
    have read : Works State.besideHeader s { u with lenCL := .of lens } :=
      hu.builder.header.trans ⟨rfl, fun h => ⟨h.clear, h.inMem, h.outMem, h.reader, h.writer, h.tables⟩⟩
    have ht := buildHeaderTable_builds lens { u with lenCL := .of lens }
    split
    next h' =>
      exact read.lands ((ht.of_error h').coarsen fun u => { u with lenCL := default, dec := default })
    next cl v h' =>
      obtain ⟨⟨b, rfl⟩, hmax⟩ := ht.of_ok h'
      have table : Works State.besideHeader { u with lenCL := .of lens }
          { u with
            lenCL := .of lens, htb := b
            dec := { u.dec with cl := cl, hdr := { hlit := hlit, hdist := hdist, lens := [] } } } :=
        ⟨rfl, fun hs => by
          obtain ⟨-, hll, hd, -, -⟩ := hs.tables
          exact ((Works.working (b := b)).sound hs).decoder hll hd ((hmax 7 hlens).trans (by decide))
            fun _ hl => nomatch hl⟩
      exact read.trans (table.trans (goto_works .clSym _).builder.header)

/-! ## The elements -/

/-- Wherever an outcome leads, a fault has been taken or the view is as it was and the bounds hold. -/
def Moves {β : Type} (view : State → β) (s : State) (o : Outcome) : Prop := ∀ t, o = .next t → Lands view s t

section
variable {β γ : Type} {view : State → β} {s t : State} {o : Outcome}

theorem Moves.of_lands (h : Lands view s t) : Moves view s (.next t) := by
  rintro _ ⟨⟩; exact h

theorem Moves.of_works (h : Works view s t) : Moves view s (.next t) := .of_lands (.inr h)

theorem Moves.raise (f : FaultCode) (info : Nat) (t : State) : Moves view s (.next (raise f info t)) :=
  .of_lands (.raise f info t)

theorem Moves.of_proceeds {a : Act State} (h : Proceeds view s a) : Moves view s (conclude a) := by
  cases a with
  | ok t => exact .of_works h
  | error t => exact .of_lands h

theorem Moves.following (h : Moves view t o) (hw : Works view s t) : Moves view s o := fun u hu => hw.lands (h u hu)

theorem Moves.coarsen {view' : State → γ} (h : Moves view s o) (g : β → γ)
    (hg : ∀ s, view' s = g (view s) := by exact fun _ => rfl) : Moves view' s o := fun t ht => (h t ht).coarsen g hg

end

theorem execStoredHdr_moves (len nlen : BitVec 16) (s : State) :
    Moves State.untouched s (execStoredHdr len nlen s) := by
  unfold execStoredHdr
  split
  · exact .raise _ _ s
  · exact .of_proceeds ((storedBody_proceeds _).following
      ((Works.decoder (d := { s.dec with blockLen := len.toNat }) rfl rfl rfl rfl).trans
        (streamState_works .decodeBlockStart _)))

theorem execDte_moves (cl sym : BitVec 16) (s : State) : Moves State.untouched s (execDte cl sym s) := by
  unfold execDte
  dsimp only
  split
  next h => exact .of_lands ((consumeEntry_reads ..).of_error h)
  next h => exact .of_works (((consumeEntry_reads ..).of_ok h).trans (answer_works _ _))

/-- The elements that build no table. -/
theorem execElement_moves (i : Instr) (s : State) (token : (encode i).format ≠ .token)
    (dynHdr : (encode i).format ≠ .dynHdr) (clSym : (encode i).format ≠ .clSym) :
    Moves State.untouched s (execElement i s) := by
  cases i with
  | blockStored f =>
    exact .of_works ((blockHeader_works f .stored s).trans
      ((streamState_works .blockBodyStart _).trans (goto_works .stored _)))
  | blockFixed f =>
    exact .of_works ((blockHeader_works f .fixed s).trans
      ((useFixedTables_works _).trans ((streamState_works .decodeBlockStart _).trans (goto_works .litLen _))))
  | blockDynamic f =>
    exact .of_works ((blockHeader_works f .dynamic s).trans
      ((streamState_works .blockBodyStart _).trans (goto_works .dynHdr _)))
  | blockReserved f => exact .raise _ _ _
  | storedHdr len nlen => exact execStoredHdr_moves len nlen s
  | lit b => exact .of_proceeds ((emit_proceeds b s).map (goto_works .litLen))
  | eob => exact .of_works (endBlock_works s)
  | len257 | len258 | len259 | len260 | len261 | len262 | len263 | len264 | len285 =>
    exact .of_works (takeLength_works _ s)
  | len265 x | len266 x | len267 x | len268 x | len269 x | len270 x | len271 x | len272 x | len273 x | len274 x
  | len275 x | len276 x | len277 x | len278 x | len279 x | len280 x | len281 x | len282 x | len283 x | len284 x =>
    exact .of_works (takeLength_works _ s)
  | llInvalid286 | llInvalid287 | distInvalid30 | distInvalid31 => exact .raise _ _ s
  | dist0 | dist1 | dist2 | dist3 => exact .of_proceeds (takeDistance_proceeds _ s)
  | dist4 x | dist5 x | dist6 x | dist7 x | dist8 x | dist9 x | dist10 x | dist11 x | dist12 x | dist13 x | dist14 x
  | dist15 x | dist16 x | dist17 x | dist18 x | dist19 x | dist20 x | dist21 x | dist22 x | dist23 x | dist24 x
  | dist25 x | dist26 x | dist27 x | dist28 x | dist29 x =>
    exact .of_proceeds (takeDistance_proceeds _ s)
  | dte cl sym => exact execDte_moves cl sym s
  | dynHdr => exact absurd rfl dynHdr
  | tLit | tEob | tMatch => exact absurd rfl token
  | cl0 | cl1 | cl2 | cl3 | cl4 | cl5 | cl6 | cl7 | cl8 | cl9 | cl10 | cl11 | cl12 | cl13 | cl14 | cl15 | cl16 | cl17
  | cl18 => exact absurd rfl clSym
  | _ => exact .of_works (.refl _ s)

theorem execCl16_moves (extra : BitVec 2) (s : State) : Moves State.besideBuilder s (execCl16 extra s) := by
  unfold execCl16
  split
  · exact .raise _ _ s
  next prev h =>
    exact .of_proceeds (appendRepeat_proceeds _ fun hs => hs.tables.2.2.2.2 prev (List.mem_of_getLast? h))

theorem execElement_clSym_moves (i : Instr) (s : State) (h : (encode i).format = .clSym) :
    Moves State.besideBuilder s (execElement i s) := by
  cases i with
  | cl0 | cl1 | cl2 | cl3 | cl4 | cl5 | cl6 | cl7 | cl8 | cl9 | cl10 | cl11 | cl12 | cl13 | cl14 | cl15 =>
    exact .of_proceeds (appendLength_proceeds (by decide) s)
  | cl16 x => exact execCl16_moves x s
  | cl17 x | cl18 x => exact .of_proceeds (appendRepeat_proceeds _ fun _ => Nat.zero_le _)
  | _ => cases h

theorem execElement_dynHdr_moves (i : Instr) (s : State) (h : (encode i).format = .dynHdr) :
    Moves State.besideHeader s (execElement i s) := by
  cases i with
  | dynHdr l d c => exact .of_proceeds (dynamicHeader_proceeds _ _ _ s)
  | _ => cases h

/-- Every element of the bit stream. -/
theorem execElement_moves_besideHeader (i : Instr) (s : State) (token : (encode i).format ≠ .token) :
    Moves State.besideHeader s (execElement i s) := by
  by_cases dynHdr : (encode i).format = .dynHdr
  · exact execElement_dynHdr_moves i s dynHdr
  by_cases clSym : (encode i).format = .clSym
  · exact (execElement_clSym_moves i s clSym).coarsen fun u => { u with lenCL := default, dec := default }
  · exact (execElement_moves i s token dynHdr clSym).coarsen fun u =>
      { u with htb := default, lenCL := default, dec := default }

/-- The view beside a header, written out as a frame. -/
theorem eq_of_besideHeader {s t : State} (h : t.besideHeader = s.besideHeader) :
    t = { s with
          br := t.br, dec := t.dec, sdec := t.sdec, lenCL := t.lenCL, htb := t.htb, status := t.status
          result := t.result, seq := t.seq } := by
  cases s
  cases t
  simp only [State.besideHeader, State.untouched, State.mk.injEq] at h
  simp only [h]

/-- Settles O8: every element works beside the registers of a dynamic header, one that is no dynamic header beside those
of the builder, and one that builds no table leaves all of them alone. -/
theorem elementsTouchOnlyTheDecoder : Obligations.ElementsTouchOnlyTheDecoder := by
  intro i s t cmd token h _ hf
  rw [exec_eq_execElement i s cmd] at h
  have frame := (execElement_moves_besideHeader i s token t h).works hf
  refine ⟨eq_of_besideHeader frame.same, congrArg (fun u => u.br.inputLength) frame.same, fun dynHdr => ?_,
    fun dynHdr clSym => ?_⟩
  · by_cases clSym : (encode i).format = .clSym
    · exact (congrArg State.lenCL ((execElement_clSym_moves i s clSym t h).works hf).same :)
    · exact (congrArg State.lenCL ((execElement_moves i s token dynHdr clSym t h).works hf).same :)
  · have same := ((execElement_moves i s token dynHdr clSym t h).works hf).same
    exact ⟨(congrArg State.htb same :), (congrArg (fun u => u.dec.cl) same :)⟩

/-! ## The writer and the packer -/

theorem Writer.pushBit_bounded (w : Writer) (bit : Bool) (h : w.bounded) : (w.pushBit bit).bounded := by
  obtain ⟨index, current⟩ := h
  unfold Writer.pushBit
  dsimp only
  split
  · exact ⟨Nat.zero_le 7, by simp⟩
  · refine ⟨by simp only; omega, ?_⟩
    have double : 2 ^ (w.bitIndex + 1) = 2 ^ w.bitIndex * 2 := Nat.pow_succ ..
    rw [BitVec.toNat_or, BitVec.toNat_shiftLeft, Nat.shiftLeft_eq]
    refine Nat.or_lt_two_pow ((Nat.mod_le _ _).trans_lt ?_) ?_ <;> dsimp only
    · omega
    · have := Nat.two_pow_pos w.bitIndex
      have : (BitVec.ofNat 8 bit.toNat).toNat ≤ 1 := by cases bit <;> decide
      omega

theorem Writer.pushBits_bounded (v n : Nat) (w : Writer) (h : w.bounded) : (w.pushBits v n).bounded := by
  induction n generalizing w with
  | zero => exact h
  | succ n ih => exact ih _ (Writer.pushBit_bounded w _ h)

theorem Writer.flush_bounded (w : Writer) (h : w.bounded) : w.flush.bounded := by
  unfold Writer.flush
  split
  · exact ⟨Nat.zero_le 7, by simp⟩
  · exact h

theorem Works.writer {s : State} {w : Writer} {c : Nat} (h : s.Sound → w.out.wf = true ∧ w.bounded) :
    Works State.inMem s { s with bw := w, freeCtr := c } :=
  ⟨rfl, fun hs => ⟨hs.clear, hs.inMem, (h hs).1, hs.reader, (h hs).2, hs.tables⟩⟩

/-- Every other register may change: the bounds speak of none of them. -/
theorem Works.registers {s t : State} (fault : t.status.fault = s.status.fault := by rfl)
    (inMem : t.inMem = s.inMem := by rfl)
    (bw : t.bw = s.bw := by rfl) (br : t.br = s.br := by rfl) (built : t.built = s.built := by rfl)
    (dec : t.dec = s.dec := by rfl) : Works State.inMem s t where
  same := inMem
  sound h := ⟨fault ▸ h.clear, inMem ▸ h.inMem, bw ▸ h.outMem, br ▸ h.reader, bw ▸ h.writer, by
    simpa only [State.tablesBounded, built, dec] using h.tables⟩

theorem bwWrite_proceeds (value n : Nat) (reversed : Bool) (s : State) :
    Proceeds State.inMem s (bwWrite value n reversed s) := by
  unfold bwWrite
  split
  · exact Works.writer fun h => ⟨Writer.pushBits_wf _ _ _ h.outMem, Writer.pushBits_bounded _ _ _ h.writer⟩
  · exact .raise _ _ s

theorem bwFinish_reads (s : State) : Reads State.inMem s (bwFinish s) := by
  unfold bwFinish
  split
  · exact Works.writer fun h => ⟨Writer.flush_wf _ h.outMem, Writer.flush_bounded _ h.writer⟩
  · exact .raise _ _ s

theorem bwInit_works (s : State) : Works State.inMem s (bwInit s) :=
  Works.writer fun _ => ⟨bwInit_wf s, Nat.zero_le 7, Nat.one_pos⟩

theorem finishEncode_lands (s : State) : Lands State.inMem s (finishEncode s) := by
  unfold finishEncode
  split
  next h => exact (bwFinish_reads s).of_error h
  next h => exact .inr (((bwFinish_reads s).of_ok h).trans .registers)

theorem Proceeds.finishEncode {s : State} {a : Act State} (h : Proceeds State.inMem s a) :
    Moves State.inMem s (conclude (a.map finishEncode)) := by
  cases a with
  | ok t => exact .of_lands (h.lands (finishEncode_lands t))
  | error t => exact .of_lands h

theorem packSymbol_proceeds (t : Nat) (s : State) : Proceeds State.inMem s (packSymbol t s) := by
  unfold packSymbol
  split
  · exact .raise _ _ s
  split
  · exact .raise _ _ s
  · exact bwWrite_proceeds ..

theorem advance_works (slots : Nat) (s : State) : Works State.inMem s (advance slots s) := .registers

theorem packMatch_proceeds (t eb ev d deb dev : Nat) (s : State) :
    Proceeds State.inMem s (packMatch t eb ev d deb dev s) := by
  unfold packMatch
  split
  · exact .raise _ _ s
  split
  · exact .raise _ _ s
  have hev := bwWrite_proceeds ev eb true s
  split
  next h => exact hev.of_error h
  next u h =>
    have hd := (bwWrite_proceeds (u.codeD.entries.getD d 0) (u.lenD.entries.getD d 0) true u).following (hev.of_ok h)
    split
    next h' => exact hd.of_error h'
    next v h' => exact ((bwWrite_proceeds dev deb true v).map (advance_works 6)).following (hd.of_ok h')

theorem execTMatch_moves (lc : BitVec 8) (le lv dc de dv : Slot) (s : State) :
    Moves State.inMem s (execTMatch lc le lv dc de dv s) := by
  have hp := packSymbol_proceeds (256 + lc.toNat) s
  unfold execTMatch
  dsimp only
  split
  next h => exact .of_lands (hp.of_error h)
  next h => exact .of_proceeds ((packMatch_proceeds ..).following (hp.of_ok h))

/-- Every element and every token leaves IN as it is. -/
theorem execElement_moves_inMem (i : Instr) (s : State) : Moves State.inMem s (execElement i s) := by
  by_cases h : (encode i).format = .token
  · cases i with
    | tLit b => exact .of_proceeds ((packSymbol_proceeds _ s).map (advance_works 1))
    | tEob => exact (packSymbol_proceeds 256 s).finishEncode
    | tMatch lc le lv dc de dv => exact execTMatch_moves lc le lv dc de dv s
    | _ => cases h
  · exact (execElement_moves_besideHeader i s h).coarsen State.inMem

/-! ## Fetching, turns -/

theorem getD_le {l : List Nat} {b : Nat} (h : ∀ x ∈ l, x ≤ b) (n : Nat) : l.getD n 0 ≤ b := by
  rcases Nat.lt_or_ge n l.length with hn | hn
  · rw [List.getD_eq_getElem _ _ hn]; exact h _ (List.getElem_mem hn)
  · rw [List.getD_eq_default _ _ hn]; exact Nat.zero_le b

theorem litLenExtra_le (sym : Nat) : litLenExtra sym ≤ 5 := by
  unfold litLenExtra
  split
  · exact Nat.zero_le 5
  · exact getD_le (by decide) _

theorem distSymbolExtra_le (sym : Nat) : distSymbolExtra sym ≤ 13 := getD_le (by decide) sym

theorem clSymbolExtra_le (lens : List Nat) (sym : Nat) : clSymbolExtra sym lens ≤ 7 := by
  unfold clSymbolExtra
  repeat' split
  all_goals decide

theorem fetchFields_reads {n m : Nat} (f : Format) (hn : n ≤ 16) (hm : m ≤ 16) (s : State) :
    Reads State.untouched s (fetchFields f n m s) := by
  have hlow := readBits_reads hn s
  unfold fetchFields
  split
  next h => exact hlow.of_error h
  next u h =>
    have hhigh := (readBits_reads hm u).following (hlow.of_ok h)
    split
    next h' => exact hhigh.of_error h'
    next h' => exact hhigh.of_ok h'

theorem fetchCounts_reads (s : State) : Reads State.untouched s (fetchCounts s) := by
  have hlow := fetchFields_reads (n := 5) (m := 5) .dynHdr (by decide) (by decide) s
  unfold fetchCounts
  split
  next h => exact hlow.of_error h
  next u h =>
    have hhigh := (readBits_reads (n := 4) (by decide) u).following (hlow.of_ok h)
    split
    next h' => exact hhigh.of_error h'
    next h' => exact hhigh.of_ok h'

theorem fetchSymbol_reads (f : Format) (width : Nat) {t : DecodeTable} {extra : Nat → Nat} {s : State}
    (ht : s.Sound → t.maxLen ≤ 15) (hx : ∀ sym, extra sym ≤ 16) :
    Reads State.untouched s (fetchSymbol f width t extra s) := by
  have hsym := readSymbol_reads ht
  unfold fetchSymbol
  split
  next h => exact hsym.of_error h
  next sym u h =>
    have hextra := (readBits_reads (hx sym) u).following (hsym.of_ok h)
    split
    next h' => exact hextra.of_error h'
    next h' => exact hextra.of_ok h'

theorem fetchDistance_reads (s : State) : Reads State.untouched s (fetchDistance s) := by
  have hd : s.Sound → s.dec.d.maxLen ≤ 15 := fun h => h.tables.2.2.1
  unfold fetchDistance
  dsimp only
  split
  · exact lookupEntry_works hd
  · exact fetchSymbol_reads _ _ hd fun sym => (distSymbolExtra_le sym).trans (by decide)

theorem fetchToken_reads (s : State) : Reads State.untouched s (fetchToken s) := by
  unfold fetchToken
  split
  · exact .raise _ _ s
  split
  · split
    · exact Works.refl _ s
    · exact .raise _ _ s
  · exact Works.refl _ s

theorem fetchElement_reads (s : State) : Reads State.untouched s (fetchElement s) := by
  unfold fetchElement
  split
  · exact .inr (.refl _ s)
  · exact Works.refl _ s
  · exact fetchToken_reads s
  · exact (fetchFields_reads _ (by decide) (by decide) _).following
      ((streamState_works _ s).trans (tryStart_works _))
  · exact (fetchFields_reads _ (by decide) (by decide) _).following ((tryStart_works s).trans (align_works _))
  · exact (fetchCounts_reads _).following (tryStart_works s)
  · exact fetchSymbol_reads _ _ (fun h => h.tables.2.2.2.1) fun sym => (clSymbolExtra_le _ sym).trans (by decide)
  · exact (fetchSymbol_reads _ _ (fun h => h.tables.2.1) fun sym => (litLenExtra_le sym).trans (by decide)).following
      ((flushBlocks_works s).trans (tryStart_works _))
  · exact fetchDistance_reads s

theorem illegalElement_halted (r : Raw) (s : State) : (illegalElement r s).Halted := by
  unfold illegalElement
  split <;> exact raise_halted _ _ s

theorem turn_moves (s : State) : Moves State.inMem s (turn s) := by
  have hf := fetchElement_reads s
  unfold turn
  split
  next h => exact .of_lands ((hf.of_error h).coarsen State.inMem)
  next r u h =>
    have read : Works State.inMem s u := (hf.of_ok h).coarsen State.inMem
    split
    next i _ => exact (execElement_moves_inMem i u).following read
    next => exact .of_lands (.inl (illegalElement_halted r u))

theorem runTurns_moves (fuel : Nat) (s : State) : Moves State.inMem s (runTurns fuel s) := by
  induction fuel generalizing s with
  | zero => exact .of_works (.refl _ s)
  | succ fuel ih =>
    rw [runTurns]
    split
    · exact .of_works (.refl _ s)
    split
    next u hu =>
      rcases turn_moves s u hu with halted | on
      · rw [runTurns_of_idle halted.idle]; exact .of_lands (.inl halted)
      · exact (ih u).following on
    next hn => exact fun t ht => absurd ht (hn t)

theorem settle_moves (s : State) : Moves State.inMem s (settle s) := by
  unfold settle
  split
  · exact runTurns_moves _ s
  · exact .of_works (.refl _ s)

/-! ## The encoder -/

theorem putLens_works (a : Alphabet) (l : List Nat) (s : State) : Works State.inMem s (s.putLens a l) := by
  apply Works.registers <;> simp

theorem putCodes_works (a : Alphabet) (c : List Nat) (s : State) : Works State.inMem s (s.putCodes a c) := by
  apply Works.registers <;> simp

theorem writeFields_proceeds (fields : List (Nat × Nat)) (s : State) :
    Proceeds State.inMem s (writeFields fields s) := by
  induction fields generalizing s with
  | nil => exact Works.refl _ s
  | cons field rest ih =>
    obtain ⟨v, n⟩ := field
    have hw := bwWrite_proceeds v n true s
    rw [writeFields]
    split
    next h => exact hw.of_error h
    next h => exact (ih _).following (hw.of_ok h)

theorem storedBlock_proceeds (last : Bool) (chunk : List Byte) (s : State) :
    Proceeds State.inMem s (storedBlock last chunk s) := by
  have hw := writeFields_proceeds [(last.toNat, 1), (0, 2)] s
  unfold storedBlock
  split
  next h => exact hw.of_error h
  next h => exact (writeFields_proceeds _ _).following (hw.of_ok h)

theorem storedBlocks_proceeds (fuel : Nat) (data : List Byte) (s : State) :
    Proceeds State.inMem s (storedBlocks fuel data s) := by
  induction fuel generalizing data s with
  | zero => exact Works.refl _ s
  | succ fuel ih =>
    have hb := storedBlock_proceeds (decide (data.length ≤ Config.storedMax)) (data.take Config.storedMax) s
    rw [storedBlocks]
    dsimp only
    split
    next h => exact hb.of_error h
    next u h =>
      split
      · exact (hb.of_ok h).trans .registers
      · exact (ih _ _).following ((hb.of_ok h).trans .registers)

theorem buildCodes_proceeds (a : Alphabet) (limit : Nat) (s : State) :
    Proceeds State.inMem s (buildCodes a limit s) := by
  unfold buildCodes
  split
  · exact .raise _ _ s
  split
  · exact .raise _ _ s
  · exact (putLens_works _ _ s).trans (putCodes_works _ _ _)

theorem dynamicTables_proceeds (s : State) : Proceeds State.inMem s (dynamicTables s) := by
  have hll := buildCodes_proceeds .litLen Config.limitLitLen s
  unfold dynamicTables
  split
  next h => exact hll.of_error h
  next u h =>
    have hd := (buildCodes_proceeds .dist Config.limitDist u).following (hll.of_ok h)
    split
    next h' => exact hd.of_error h'
    next v h' =>
      have hcl (src : List Nat) :=
        (buildCodes_proceeds .codeLen Config.limitCl (ccbRle src v)).following ((hd.of_ok h').trans .registers)
      dsimp only
      split
      next h'' => exact (hcl _).of_error h''
      next h'' => exact ((hcl _).of_ok h'').trans .registers

theorem startPacking_works (s : State) : Works State.inMem s (startPacking s) := .registers

theorem startFixed_proceeds (s : State) : Proceeds State.inMem s (startFixed s) :=
  ((writeFields_proceeds _ _).map startPacking_works).following ((bwInit_works s).trans .registers)

theorem startDynamic_proceeds (s : State) : Proceeds State.inMem s (startDynamic s) := by
  have ht := (dynamicTables_proceeds (lzmRun (bwInit s))).following ((bwInit_works s).trans .registers)
  unfold startDynamic
  split
  next h => exact ht.of_error h
  next h => exact ((writeFields_proceeds _ _).map startPacking_works).following (ht.of_ok h)

/-! ## Commands -/

section
variable {β : Type} {view : State → β} {s : State}

/-- The command goes on with its turns unless it is over already. -/
theorem Proceeds.settles {a : Act State} (h : Proceeds State.inMem s a) :
    Moves State.inMem s (match (generalizing := false) a with | .error t => .next t | .ok u => settle u) := by
  cases a with
  | error t => exact .of_lands h
  | ok u => exact (settle_moves u).following h

theorem withInput_moves {body : State → Outcome} (h : Moves view s (body s)) : Moves view s (withInput s body) := by
  unfold withInput
  split
  · exact h
  · rintro t ⟨⟩

theorem beginCommand_works (clearsDone : Bool) (s : State) : Works State.untouched s (beginCommand clearsDone s) :=
  .ends rfl

theorem framed_moves {c : Bool} {body : State → Outcome} (hf : s.status.fault = none)
    (h : Moves State.inMem (beginCommand c s) (body (beginCommand c s))) : Moves State.inMem s (framed c s body) := by
  rw [framed_runs hf]
  exact h.following ((beginCommand_works c s).coarsen State.inMem)

end

theorem answer_works_inMem (r : Result) (s : State) : Works State.inMem s (answer r s) := .registers

theorem Works.cursor {s : State} {r : Reader} {kept : Bool} {x : Sdec} (h : s.Sound → r.bounded) :
    Works State.inMem s { s with br := r, inKept := kept, sdec := x } :=
  ⟨rfl, fun hs => ⟨hs.clear, hs.inMem, hs.outMem, h hs, hs.writer, hs.tables⟩⟩

theorem brInit_proceeds (s : State) : Proceeds State.inMem s (brInit s) := by
  unfold brInit
  split
  · exact Works.cursor fun h => ⟨Nat.zero_le 23, Nat.one_pos, h.reader.2.2⟩
  · exact .raise _ _ s

theorem startDecode_proceeds (job : Job) (s : State) : Proceeds State.inMem s (startDecode job s) := by
  refine (brInit_proceeds s).map fun u => ?_
  exact ((Works.decoder (d := { u.dec with out := [], blocks := [] }) rfl rfl rfl rfl).trans
    (Works.sequencer (q := .decode job .blkHdr))).coarsen State.inMem

theorem execBwFinish_moves {s : State} (hf : s.status.fault = none) : Moves State.inMem s (execBwFinish s) := by
  refine framed_moves hf ?_
  split
  next h => exact .of_lands ((bwFinish_reads _).of_error h)
  next h => exact .of_works (((bwFinish_reads _).of_ok h).trans (answer_works_inMem _ _))

theorem execBrRead_moves (n : Nat) {s : State} (hf : s.status.fault = none) :
    Moves State.inMem s (execBrRead n s) := by
  refine framed_moves hf ?_
  split
  · exact .raise _ _ _
  next hn =>
  refine withInput_moves ?_
  have bits := (readBits_reads (Nat.le_of_not_lt hn) { beginCommand false s with seq := .idle }).following .sequencer
  split
  next h => exact .of_lands ((bits.of_error h).coarsen State.inMem)
  next h => exact .of_works (((bits.of_ok h).trans (answer_works _ _)).coarsen State.inMem)

/-- The tables BR.DECODE takes are indexed by at most 15 bits (R29, R149). -/
theorem madeByBuilder_maxLen {t : DecodeTable} {s : State} (h : madeByBuilder t s = true) (hs : s.Sound) :
    t.maxLen ≤ 15 := by
  simp only [madeByBuilder, Bool.or_eq_true, List.contains_iff_mem, beq_iff_eq] at h
  rcases h with (built | rfl) | rfl
  · exact hs.tables.1 t built
  · exact fixedLitLenTable_maxLen.trans (by decide)
  · exact fixedDistTable_maxLen.trans (by decide)

theorem execBrDecode_moves (t : DecodeTable) {s : State} (hf : s.status.fault = none) :
    Moves State.inMem s (execBrDecode t s) := by
  refine framed_moves hf ?_
  split
  next made =>
    exact withInput_moves ((settle_moves _).following
      (((lookupEntry_works (madeByBuilder_maxLen made)).trans .sequencer).coarsen State.inMem))
  next => exact .raise _ _ _

theorem execBrRestore_moves {s : State} (hf : s.status.fault = none) : Moves State.inMem s (execBrRestore s) := by
  refine framed_moves hf ?_
  split
  · exact .of_works ((Works.cursor fun h => Reader.back_bounded _ h.reader).trans (answer_works_inMem _ _))
  · exact .raise _ _ _

theorem lengthsOk_iff {l : List Nat} : lengthsOk l = true ↔ ∀ x ∈ l, x ≤ 15 := by simp [lengthsOk]

/-- HTB.BUILD adds a table of codes of at most 15 bits (R160). -/
theorem execHtbBuild_moves (a : TableArg) {s : State} (hf : s.status.fault = none) :
    Moves State.inMem s (execHtbBuild a s) := by
  refine framed_moves hf ?_
  split
  · exact .raise _ _ _
  next lens _ =>
  split
  next ok =>
    simp only [TableArg.lengthsOk, Bool.and_eq_true] at ok
    have hl : ∀ l ∈ lens, l ≤ 15 := lengthsOk_iff.mp ok.1
    unfold buildTable
    cases h : htbBuild lens with
    | error i => exact .raise _ _ _
    | ok x =>
      refine .of_works ⟨rfl, fun hs => ⟨hs.clear, hs.inMem, hs.outMem, hs.reader, hs.writer, ?_, hs.tables.2⟩⟩
      intro t ht
      rcases List.mem_append.mp ht with built | new
      · exact hs.tables.1 t built
      · exact List.mem_singleton.mp new ▸ htbBuild_maxLen h hl
  next => exact .raise _ _ _

theorem execCcbLengths_moves (a : TableArg) (limit : Nat) {s : State} (hf : s.status.fault = none) :
    Moves State.inMem s (execCcbLengths a limit s) := by
  refine framed_moves hf ?_
  split
  · split
    · exact .raise _ _ _
    split
    · exact .raise _ _ _
    cases a with
    | lit l => exact .of_works .registers
    | reg al => exact .of_works ((putLens_works _ _ _).trans .registers)
  · exact .raise _ _ _

theorem execCcbCodes_moves (a : TableArg) {s : State} (hf : s.status.fault = none) :
    Moves State.inMem s (execCcbCodes a s) := by
  refine framed_moves hf ?_
  split
  · exact .raise _ _ _
  split
  · split
    · exact .raise _ _ _
    cases a with
    | lit l => exact .of_works .registers
    | reg al => exact .of_works ((putCodes_works _ _ _).trans .registers)
  · exact .raise _ _ _

theorem execCcbRle_moves (src : List Nat) {s : State} (hf : s.status.fault = none) :
    Moves State.inMem s (execCcbRle src s) := by
  refine framed_moves hf ?_
  split
  · exact .of_works .registers
  · exact .raise _ _ _

/-- The commands that neither empty IN nor append to it. -/
theorem exec_command_moves (i : Instr) {s : State} (hf : s.status.fault = none) (cmd : (encode i).format = .cmd)
    (reset : i ≠ .reset) (init : i ≠ .sdecInit) (call : ∀ c f, i ≠ .sdecCall c f) : Moves State.inMem s (exec i s) := by
  cases i with
  | reset => exact absurd rfl reset
  | sdecInit => exact absurd rfl init
  | sdecCall c f => exact absurd rfl (call c f)
  | bwInit =>
    dsimp only [exec]
    refine framed_moves hf ?_
    exact .of_works ((bwInit_works _).trans (answer_works_inMem _ _))
  | bwWrite v n r =>
    dsimp only [exec]
    refine framed_moves hf ?_
    exact .of_proceeds ((bwWrite_proceeds v n r _).map (answer_works_inMem _))
  | bwFinish => exact execBwFinish_moves hf
  | brInit =>
    dsimp only [exec]
    refine framed_moves hf ?_
    exact .of_proceeds ((brInit_proceeds _).map (answer_works_inMem _))
  | brRead n => exact execBrRead_moves n hf
  | brDecode t => exact execBrDecode_moves t hf
  | brAlign =>
    dsimp only [exec]
    refine framed_moves hf ?_
    exact .of_works (((align_works _).trans (answer_works _ _)).coarsen State.inMem)
  | brSave =>
    dsimp only [exec]
    refine framed_moves hf ?_
    exact .of_works ((Works.cursor fun h => Reader.keep_bounded _ h.reader).trans (answer_works_inMem _ _))
  | brRestore => exact execBrRestore_moves hf
  | htbBuild a => exact execHtbBuild_moves a hf
  | lzmRun =>
    dsimp only [exec]
    refine framed_moves hf ?_
    exact .of_works .registers
  | ccbLengths a l => exact execCcbLengths_moves a l hf
  | ccbCodes a => exact execCcbCodes_moves a hf
  | ccbRle q => exact execCcbRle_moves q hf
  | encStored =>
    dsimp only [exec]
    refine framed_moves hf ?_
    exact ((storedBlocks_proceeds _ _ _).following ((bwInit_works _).trans .registers)).finishEncode
  | encFixed =>
    dsimp only [exec]
    refine framed_moves hf ?_
    exact (startFixed_proceeds _).settles
  | encDynamic =>
    dsimp only [exec]
    refine framed_moves hf ?_
    exact (startDynamic_proceeds _).settles
  | decBlock =>
    dsimp only [exec]
    refine framed_moves hf ?_
    exact (startDecode_proceeds .block _).settles
  | decAdaptive =>
    dsimp only [exec]
    refine framed_moves hf ?_
    exact (startDecode_proceeds .adaptive _).settles
  | rdConsumed =>
    dsimp only [exec]
    unfold execRdConsumed
    rw [hf]
    exact .of_works .registers
  | _ => cases cmd

/-! ## Streams -/

theorem appendChunk_sound (chunk : Option (List Byte)) {s : State} (h : s.Sound) : (appendChunk chunk s).Sound := by
  cases chunk with
  | none => exact h
  | some bs =>
    exact ⟨h.clear, Memory.writeBytes_wf _ _ _ (Memory.below_wf _ _ h.inMem), h.outMem, h.reader, h.writer, h.tables⟩

theorem firstCall_proceeds (startOffset : Option Nat) (s : State) :
    Proceeds State.inMem s (firstCall startOffset s) := by
  unfold firstCall
  split
  · exact Works.refl _ s
  dsimp only
  split
  · exact Works.registers
  split
  · exact .raise _ _ _
  · exact Works.cursor fun h => h.reader

theorem dispatch_proceeds (s : State) : Proceeds State.inMem s (dispatch s) := by
  have before (x : SdecState) (ph : Phase) : Works State.untouched s ((streamAt ph s).streamState x) :=
    Works.sequencer.trans (streamState_works x _)
  suffices h : Proceeds State.untouched s (dispatch s) from h.coarsen State.inMem
  unfold dispatch
  split
  case h_1 | h_2 => exact Works.sequencer
  case h_3 | h_4 =>
    split
    · exact before _ _
    · exact (before _ _).trans (useFixedTables_works _)
    · exact before _ _
    · exact .raise _ _ s
  case h_5 | h_6 =>
    split
    · exact (storedBody_proceeds _).following (before _ _)
    · exact before _ _
  case h_7 => exact Works.sequencer.trans (endBlock_works _)

/-- A call that is over changes nothing; any other first appends its chunk, and then leaves IN as it is. -/
theorem streamCall_moves (chunk : Option (List Byte)) (startOffset : Option Nat) {s t : State}
    (h : streamCall chunk startOffset s = .next t) :
    Lands State.inMem s t ∨ Lands State.inMem (appendChunk chunk s) t := by
  unfold streamCall at h
  split at h
  · cases h; exact .inl (.inr .registers)
  unfold withInput at h
  split at h
  next =>
    refine .inr ?_
    dsimp only at h
    have first := firstCall_proceeds startOffset (appendChunk chunk s)
    split at h
    next h' => cases h; exact first.of_error h'
    next u h' => exact (dispatch_proceeds u).following (first.of_ok h') |>.settles t h
  next => cases h

theorem execSdecCall_moves (chunk : Option (List Byte)) (startOffset : Option Nat) {s t : State}
    (hf : s.status.fault = none) (h : execSdecCall chunk startOffset s = .next t) :
    Lands State.inMem s t ∨ Lands State.inMem (appendChunk chunk (beginCommand false s)) t := by
  unfold execSdecCall at h
  rw [framed_runs hf] at h
  exact (streamCall_moves chunk startOffset h).imp_left ((beginCommand_works false s).coarsen State.inMem).lands

/-! ## IN is not written -/

/-- What bytes written one after another read as. -/
theorem Memory.read_writeBytes (a k : Nat) (bs : List Byte) (m : Memory) (b : Byte) (h : bs[k]? = some b) :
    (Memory.writeBytes a bs m).read (a + k) = some b := by
  induction bs generalizing a k m with
  | nil => cases h
  | cons x bs ih =>
    rw [Memory.writeBytes]
    cases k with
    | zero =>
      cases h
      rw [Memory.read_writeBytes_other _ _ _ _ (.inl (by omega)), Nat.add_zero, Memory.read_write_same]
    | succ k =>
      rw [show a + (k + 1) = a + 1 + k by omega]
      exact ih _ _ _ h

/-- Settles O7: every operation but a call's first leaves IN as it is, and that one appends the chunk. -/
theorem inputIsNeverWritten : Obligations.InputIsNeverWritten := by
  intro i s t h hf ht reset init
  by_cases cmd : (encode i).format = .cmd
  case neg =>
    rw [exec_eq_execElement i s cmd] at h
    exact .inl ((execElement_moves_inMem i s t h).works ht).same
  by_cases call : ∃ c f, i = .sdecCall c f
  case neg =>
    exact .inl ((exec_command_moves i hf cmd reset init (fun c f e => call ⟨c, f, e⟩) t h).works ht).same
  obtain ⟨chunk, off, rfl⟩ := call
  rcases execSdecCall_moves chunk off hf h with ended | appended
  · exact .inl (ended.works ht).same
  have same : t.inMem = (appendChunk chunk (beginCommand false s)).inMem := (appended.works ht).same
  cases chunk with
  | none => exact .inl same
  | some bs =>
    refine .inr ⟨bs, off, rfl, same, fun a ha => ?_, fun k b hb => ?_⟩
    · exact (congrArg (Memory.read a) same).trans (appendChunk_read (some bs) (beginCommand false s) a ha)
    · exact (congrArg (Memory.read _) same).trans (Memory.read_writeBytes _ k bs _ b hb)

/-! ## The invariant -/

/-- While a fault is recorded every command but RESET and RD.CONSUMED is refused (R333). -/
theorem exec_refused {i : Instr} {s : State} {f : FaultCode} (hf : s.status.fault = some f)
    (cmd : (encode i).format = .cmd) (reset : i ≠ .reset) (consumed : i ≠ .rdConsumed) :
    exec i s = .next (refuse f s) := by
  cases i with
  | reset => exact absurd rfl reset
  | rdConsumed => exact absurd rfl consumed
  | bwInit | bwWrite | bwFinish | brInit | brRead | brDecode | brAlign | brSave | brRestore | htbBuild | lzmRun
  | ccbLengths | ccbCodes | ccbRle | encStored | encFixed | encDynamic | decBlock | decAdaptive | sdecInit
  | sdecCall =>
    dsimp only [exec]
    exact framed_refused hf
  | _ => cases cmd

/-- The invariant speaks of no result and of no pending command. -/
theorem State.Inv.of_fields {s t : State} (h : s.Inv) (status : t.status = s.status) (seq : t.seq = s.seq)
    (inMem : t.inMem.wf = true) (bw : t.bw = s.bw) (br : t.br = s.br) (built : t.built = s.built)
    (dec : t.dec = s.dec) : t.Inv where
  inMem := inMem
  outMem := bw ▸ h.outMem
  halted hf := seq ▸ h.halted (status ▸ hf)
  reader hf := br ▸ h.reader (status ▸ hf)
  writer hf := bw ▸ h.writer (status ▸ hf)
  tables hf := by simpa only [State.tablesBounded, built, dec] using h.tables (status ▸ hf)

theorem execSdecInit_inv {s t : State} (hs : s.Sound) (h : execSdecInit s = .next t) : t.Inv := by
  unfold execSdecInit at h
  rw [framed_runs hs.clear] at h
  cases h
  exact State.Sound.inv ⟨hs.clear, rfl, hs.outMem, ⟨Nat.zero_le 23, Nat.one_pos, hs.reader.2.2⟩, hs.writer, hs.tables⟩

/-- A command on a sound state. -/
theorem exec_command_inv {i : Instr} {s t : State} (hs : s.Sound) (cmd : (encode i).format = .cmd)
    (h : exec i s = .next t) : t.Inv := by
  by_cases reset : i = .reset
  · subst reset; cases h; exact (State.fresh_sound s.params).inv.of_fields rfl rfl rfl rfl rfl rfl rfl
  by_cases init : i = .sdecInit
  · subst init; exact execSdecInit_inv hs h
  by_cases call : ∃ c f, i = .sdecCall c f
  · obtain ⟨c, f, rfl⟩ := call
    rcases execSdecCall_moves c f hs.clear h with lands | lands
    · exact lands.inv hs
    · exact lands.inv (appendChunk_sound c ((beginCommand_works false s).sound hs))
  · exact (exec_command_moves i hs.clear cmd reset init (fun c f e => call ⟨c, f, e⟩) t h).inv hs

/-- A command while a fault is recorded. -/
theorem exec_command_faulted_inv {i : Instr} {s t : State} {f : FaultCode} (hs : s.Inv)
    (hf : s.status.fault = some f) (cmd : (encode i).format = .cmd) (h : exec i s = .next t) : t.Inv := by
  by_cases reset : i = .reset
  · subst reset; cases h; exact (State.fresh_sound s.params).inv.of_fields rfl rfl rfl rfl rfl rfl rfl
  by_cases consumed : i = .rdConsumed
  · subst consumed
    dsimp only [exec] at h
    unfold execRdConsumed at h
    rw [hf] at h
    cases h
    exact hs.of_fields rfl rfl hs.inMem rfl rfl rfl rfl
  · rw [exec_refused hf cmd reset consumed] at h
    cases h
    exact hs.of_fields rfl rfl hs.inMem rfl rfl rfl rfl

theorem illegalCommand_inv {e : DecodeError} {s t : State} (hs : s.Inv) (h : illegalCommand e s = .next t) : t.Inv := by
  unfold illegalCommand framed at h
  split at h
  · cases h; exact hs.of_fields rfl rfl hs.inMem rfl rfl rfl rfl
  · cases h
    exact State.Halted.inv ⟨Option.some_ne_none _, rfl, hs.inMem, hs.outMem⟩

theorem accept_inv (it : Issue) (rest : List Issue) {s : State} (hs : s.Inv) : (accept it rest s).Inv := by
  have inMem := accept_wf it rest s hs.inMem
  unfold accept at inMem ⊢
  dsimp only at inMem ⊢
  split
  next h => rw [h] at inMem; exact hs.of_fields rfl rfl inMem rfl rfl rfl rfl
  next => exact hs.of_fields rfl rfl hs.inMem rfl rfl rfl rfl

theorem runCommand_inv {it : Issue} {s t : State} (hs : s.Inv) (h : runCommand it s = .next t) : t.Inv := by
  unfold runCommand at h
  split at h
  next i hi =>
    have cmd : (encode i).format = .cmd := decode_format hi
    cases hf : s.status.fault with
    | none => exact exec_command_inv (hs.sound hf) cmd h
    | some f => exact exec_command_faulted_inv hs hf cmd h
  next => exact illegalCommand_inv hs h

/-- Settles O10: a command or a turn that starts in a sound state either takes a fault, which halts the core on
canonical memories, or ends in a sound state. -/
theorem everyStepKeepsTheInvariant : Obligations.EveryStepKeepsTheInvariant := by
  intro s t hs h
  by_cases idle : s.seq = .idle
  · cases hp : s.port with
    | nil => rw [step_idle idle hp] at h; cases h; exact hs
    | cons it rest => rw [step_command idle hp] at h; exact runCommand_inv (accept_inv it rest hs) h
  · have clear : s.status.fault = none := by
      by_contra hf
      exact idle (hs.halted hf)
    rw [step_busy idle, runElement_eq_turn] at h
    exact (turn_moves s t h).inv (hs.sound clear)

end Sys2Proof.Machine
end

section
/-! PROOFS. Single operations: RESET, RD.CONSUMED, the end of a block, the symbols without a meaning. -/

namespace Sys2Proof.Machine

/-! ## RESET (R41, R36, R370) -/

/-- A fresh core with any pending commands, grain and counter has the values of R41 and R36. -/
theorem State.fresh_freshBySpec (p : Config.Params) (g : Grain) (l : List Issue) (c : Nat) :
    State.FreshBySpec { State.fresh p with grain := g, port := l, freeCtr := c } :=
  ⟨rfl, rfl, by simp [State.bytesConsumed, Reader.pos, State.fresh], ⟨rfl, rfl, rfl, rfl, rfl⟩, ⟨rfl, rfl, rfl, rfl⟩,
    ⟨rfl, rfl, rfl, rfl, rfl⟩, ⟨rfl, rfl, rfl, rfl, rfl⟩, ⟨rfl, rfl⟩, ⟨rfl, rfl, rfl, rfl⟩, rfl⟩

/-- Settles O1: RESET answers a fresh core. -/
theorem resetLeavesTheSpecValues : Obligations.ResetLeavesTheSpecValues :=
  ⟨State.fresh_freshBySpec _ .command [] 0, rfl, fun _ => ⟨_, rfl, State.fresh_freshBySpec _ _ _ _, rfl, rfl⟩⟩

/-! ## RD.CONSUMED (R315) -/

theorem execRdConsumed_clear {s : State} (hf : s.status.fault = none) :
    execRdConsumed s = .next { s with result := .consumed s.bytesConsumed } := by
  unfold execRdConsumed; rw [hf]

theorem execRdConsumed_faulted {s : State} {f : FaultCode} (hf : s.status.fault = some f) :
    execRdConsumed s =
      .next { s with result := .consumed (Config.freeNat s.freeCtr), freeCtr := s.freeCtr + 1 } := by
  unfold execRdConsumed; rw [hf]

/-- Settles O27: by whether a fault is recorded. -/
theorem rdConsumedCountsWholeBytes : Obligations.RdConsumedCountsWholeBytes := by
  refine ⟨rfl, fun s => ⟨execRdConsumed_clear, fun hf => ?_⟩⟩
  obtain ⟨f, hf⟩ := Option.ne_none_iff_exists'.mp hf
  exact ⟨_, execRdConsumed_faulted hf⟩

/-! ## The end of a block (R260, R283, R305) -/

theorem streamState_of_not_stream {s : State} {j : Job} {ph : Phase} (h : s.seq = .decode j ph) (hj : j ≠ .stream)
    (x : SdecState) : s.streamState x = s := by
  unfold State.streamState
  split
  next h' => rw [h] at h'; cases h'; exact absurd rfl hj
  next => rfl

theorem goto_of_decode {s : State} {j : Job} {ph : Phase} (h : s.seq = .decode j ph) (next : Phase) :
    s.goto next = { s with seq := .decode j next } := by
  unfold State.goto; rw [h]

theorem Dec.flushed_eq (d : Dec) : d.flushed = d.blocks.flatten.length := by
  simp [Dec.flushed, List.length_flatten]

/-- Completed blocks and tail make up the output, as the blocks hold a beginning of it (R283). -/
theorem decodeResult_of_prefix {s : State} (h : s.dec.blocks.flatten <+: s.dec.out) : decodeResult s = s.dec.out := by
  unfold decodeResult
  split
  · rw [Dec.flushed_eq]; exact List.prefix_iff_eq_append.mp h
  · rfl

/-- Not the last block: the next header follows. -/
theorem endBlock_more {s : State} {j : Job} {ph : Phase} (h : s.seq = .decode j ph) (hb : s.dec.bfinal = false) :
    endBlock s =
      { s with
        sdec := if j = .stream then { s.sdec with state := .initialized } else s.sdec, seq := .decode j .blkHdr } := by
  cases j <;> simp [endBlock, State.streamState, State.goto, h, hb]

/-- The last block of a streaming call: what is new is delivered. -/
theorem endBlock_stream {s : State} {ph : Phase} (h : s.seq = .decode .stream ph) (hb : s.dec.bfinal = true) :
    endBlock s =
      { s with
        status := { s.status with done := true }, result := .bytes (s.dec.out.drop s.sdec.sp)
        sdec := { s.sdec with state := .decodeBlockEnd, sp := s.dec.op }, seq := .idle } := by
  simp [endBlock, State.streamState, h, hb, deliver, Dec.op]

/-- The last block of DEC.*: the output is returned. -/
theorem endBlock_decode {s : State} {j : Job} {ph : Phase} (h : s.seq = .decode j ph) (hj : j ≠ .stream)
    (hb : s.dec.bfinal = true) (hp : s.dec.blocks.flatten <+: s.dec.out ∨ j = .adaptive) :
    endBlock s = answerDone s.dec.out s := by
  have result : decodeResult s = s.dec.out := by
    rcases hp with hp | rfl
    · exact decodeResult_of_prefix hp
    · unfold decodeResult; rw [h]
  rw [endBlock, streamState_of_not_stream h hj, if_pos hb]
  split
  next h' => rw [h] at h'; cases h'; exact absurd rfl hj
  next => rw [result]

/-- Settles O48: by BFINAL and the command that decodes. -/
theorem endOfBlockEndsTheStreamIfFinal : Obligations.EndOfBlockEndsTheStreamIfFinal := by
  intro s j ph h
  refine ⟨fun hb => congrArg _ (endBlock_more h hb), fun hb hj => ?_, fun hb hj => ?_, fun hb hj hp => ?_⟩
  · subst hj; exact congrArg _ (endBlock_stream h hb)
  · subst hj; exact congrArg _ (endBlock_decode h (by decide) hb (.inr rfl))
  · subst hj; exact congrArg _ (endBlock_decode h (by decide) hb (.inl hp))

/-! ## Symbols without a meaning (R133, R274) -/

/-- An instruction that does nothing but take a fault. -/
theorem Raises.of_exec {i : Instr} {f : FaultCode} {info : Nat} {s t : State} (h : exec i s = .next (raise f info t))
    (ht : t.host = s.host) : Raises i f info s := by
  obtain ⟨cfg, port, params, -⟩ := host_eq_iff.mp ht
  exact ⟨_, h, rfl, rfl, rfl, cfg, port, params⟩

/-- The slots of the two distance patterns that belong to no symbol are unfilled (R45). -/
theorem fixedDistTable_unfilled :
    fixedDistTable.table.getD (revBits 5 30) 0 = 0 ∧ fixedDistTable.table.getD (revBits 5 31) 0 = 0 := by
  decide +kernel

/-- Settles O51: each of the four takes its fault at once. -/
theorem symbolsWithoutMeaningFault : Obligations.SymbolsWithoutMeaningFault := fun _ =>
  ⟨.of_exec rfl rfl, .of_exec rfl rfl, .of_exec rfl rfl, .of_exec rfl rfl, fixedDistTable_unfilled⟩

end Sys2Proof.Machine
end

section
/-! PROOFS. The reader on its stream (R60, R146): while it stands in its input as `State.Reading` says, BR.READ and a
table lookup answer the stream's bits from BR.P on, and so does every fetch. -/

namespace Sys2Proof.Machine

/-! ## Stream bits -/

theorem Memory.field_testBit (m : Memory) (p n i : Nat) :
    (m.field p n).testBit i = (decide (i < n) && m.bit (p + i)) := by
  induction n generalizing p i with
  | zero => simp [Memory.field]
  | succ n ih =>
    have head : (m.field p (n + 1)).testBit 0 = m.bit p := by
      rw [Memory.field, Nat.testBit_zero]
      cases m.bit p <;> simp [Nat.add_mod]
    have tail (i : Nat) : (m.field p (n + 1)).testBit (i + 1) = (m.field (p + 1) n).testBit i := by
      rw [Memory.field, Nat.testBit_succ]
      congr 1
      cases m.bit p <;> simp; omega
    cases i with
    | zero => simp [head]
    | succ i => rw [tail, ih, show p + 1 + i = p + (i + 1) by omega]; simp

theorem Memory.field_lt (m : Memory) (p n : Nat) : m.field p n < 2 ^ n := by
  refine Nat.lt_pow_two_of_testBit _ fun i hi => ?_
  rw [Memory.field_testBit]; simp; omega

/-- A field is its low part and, above it, its high part. -/
theorem Memory.field_add (m : Memory) (p a b : Nat) :
    m.field p (a + b) = m.field p a + 2 ^ a * m.field (p + a) b := by
  refine Nat.eq_of_testBit_eq fun i => ?_
  rw [Nat.add_comm (m.field p a), Nat.testBit_two_pow_mul_add _ (m.field_lt p a), Memory.field_testBit]
  split
  next h => rw [Memory.field_testBit]; simp [h]; omega
  next h =>
    rw [Memory.field_testBit, show p + a + (i - a) = p + i by omega]
    congr 1
    simp only [decide_eq_decide]; omega

theorem Memory.field_mod (m : Memory) (p : Nat) {a n : Nat} (h : a ≤ n) : m.field p n % 2 ^ a = m.field p a := by
  obtain ⟨b, rfl⟩ := Nat.exists_eq_add_of_le h
  rw [Memory.field_add, Nat.add_mul_mod_self_left, Nat.mod_eq_of_lt (m.field_lt p a)]

theorem Memory.field_shiftRight (m : Memory) (p : Nat) {a n : Nat} (h : a ≤ n) :
    m.field p n >>> a = m.field (p + a) (n - a) := by
  obtain ⟨b, rfl⟩ := Nat.exists_eq_add_of_le h
  rw [Nat.shiftRight_eq_div_pow, Memory.field_add, Nat.add_mul_div_left _ _ (Nat.two_pow_pos a),
    Nat.div_eq_of_lt (m.field_lt p a), Nat.zero_add, Nat.add_sub_cancel_left]

/-- The eight bits at a byte's place are the byte (R60). -/
theorem Memory.field_byte {m : Memory} {a : Nat} {b : Byte} (h : m.read a = some b) : m.field (8 * a) 8 = b.toNat := by
  refine Nat.eq_of_testBit_eq fun i => ?_
  rw [Memory.field_testBit, BitVec.testBit_toNat]
  by_cases hi : i < 8
  · rw [Memory.bit, show (8 * a + i) / 8 = a by omega, show (8 * a + i) % 8 = i by omega, h]
    simp [hi]
  · rw [BitVec.getLsbD_of_ge b i (by omega)]; simp [hi]

/-! ## The reader in its input -/

/-- What `State.Reading` says of the reader and the bytes of IN. -/
structure Reader.Stands (m : Memory) (r : Reader) : Prop where
  bytes  : ∀ a < r.inputLength, (m.read a).isSome = true
  within : r.ip ≤ r.inputLength
  behind : r.acclen ≤ 8 * r.ip
  width  : r.acclen ≤ 23
  held   : r.acc = m.field r.pos r.acclen

theorem State.Reading.stands {s : State} (h : s.Reading) : s.br.Stands s.inMem :=
  ⟨h.bytes, h.within, h.behind, h.width, h.held⟩

theorem State.Reading.with_reader {s : State} (h : s.Reading) {r : Reader} (hr : r.Stands s.inMem)
    (length : r.inputLength = s.br.inputLength) : State.Reading { s with br := r } :=
  ⟨h.kept, length ▸ h.length, hr.bytes, hr.within, hr.behind, hr.width, hr.held⟩

theorem Reader.Stands.pos_add {m : Memory} {r : Reader} (h : r.Stands m) : r.pos + r.acclen = 8 * r.ip :=
  Nat.sub_add_cancel h.behind

/-- One more byte loaded behind the bits held (R147). -/
theorem Reader.Stands.load {m : Memory} {r : Reader} (h : r.Stands m) (room : r.acclen ≤ 15)
    (more : r.ip < r.inputLength) {b : Byte} (hb : m.read r.ip = some b) :
    Reader.Stands m
      { r with acc := r.acc ||| (b.toNat <<< r.acclen), acclen := r.acclen + 8, ip := r.ip + 1 } where
  bytes := h.bytes
  within := more
  behind := by have := h.behind; simp only; omega
  width := by simp only; omega
  held := by
    have pos : 8 * (r.ip + 1) - (r.acclen + 8) = r.pos := by have := h.pos_add; omega
    have small : r.acc < 2 ^ r.acclen := h.held ▸ m.field_lt _ _
    change r.acc ||| (b.toNat <<< r.acclen) = m.field (8 * (r.ip + 1) - (r.acclen + 8)) (r.acclen + 8)
    rw [pos, Memory.field_add, ← h.held, h.pos_add, Memory.field_byte hb, Nat.lor_comm,
      ← Nat.shiftLeft_add_eq_or_of_lt small, Nat.shiftLeft_eq, Nat.mul_comm, Nat.add_comm]

theorem Reader.Stands.refill {m : Memory} {n : Nat} (hn : n ≤ 16) (fuel : Nat) {r : Reader} (h : r.Stands m) :
    (r.refill m n fuel).Stands m := by
  induction fuel generalizing r with
  | zero => exact h
  | succ fuel ih =>
    rw [Reader.refill]
    split
    next more =>
      split
      next b hb => exact ih (h.load (by omega) more.2 hb)
      next => exact h
    next => exact h

/-- The loop ends with `n` bits held, or at the end of the input. -/
theorem Reader.Stands.refill_loaded {m : Memory} {n fuel : Nat} (hn : n ≤ 16) {r : Reader} (h : r.Stands m)
    (enough : n ≤ r.acclen + 8 * fuel) :
    n ≤ (r.refill m n fuel).acclen ∨ (r.refill m n fuel).ip = r.inputLength := by
  induction fuel generalizing r with
  | zero => exact .inl enough
  | succ fuel ih =>
    rw [Reader.refill]
    split
    next more =>
      split
      next b hb => exact ih (h.load (by omega) more.2 hb) (by simp only; omega)
      next none => have := h.bytes _ more.2; rw [none] at this; cases this
    next done =>
      have := h.within
      omega

theorem Reader.Stands.drop {m : Memory} {r : Reader} (h : r.Stands m) {n : Nat} (hn : n ≤ r.acclen) :
    (r.drop n).Stands m ∧ (r.drop n).pos = r.pos + n := by
  have pos : (r.drop n).pos = r.pos + n := by
    have := h.pos_add
    have := h.behind
    simp only [Reader.pos, Reader.drop] at *; omega
  refine ⟨⟨h.bytes, h.within, (Nat.sub_le _ _).trans h.behind, (Nat.sub_le _ _).trans h.width, ?_⟩, pos⟩
  rw [pos]
  exact (congrArg (· >>> n) h.held).trans (m.field_shiftRight _ hn)

theorem State.Consumed.trans {n k : Nat} {s t u : State} (h : s.Consumed n t) (h' : t.Consumed k u) :
    s.Consumed (n + k) u := by
  obtain ⟨-, pos, length, save, saved⟩ := h
  obtain ⟨reading, pos', length', save', saved'⟩ := h'
  exact ⟨reading, by omega, length'.trans length, save'.trans save, saved'.trans saved⟩

theorem State.Consumed.avail {n : Nat} {s t : State} (h : s.Consumed n t) : t.avail = s.avail - n := by
  obtain ⟨-, pos, length, -, -⟩ := h
  simp only [State.avail, pos, length]; omega

/-- The bits held are bits of the input. -/
theorem State.Reading.acclen_le_avail {s : State} (h : s.Reading) : s.br.acclen ≤ s.avail := by
  have := h.stands.pos_add
  have := h.within
  simp only [State.avail]; omega

/-- The reader, after loading for `n` bits, holds them or all there are. -/
theorem refill_consumed {n : Nat} (hn : n ≤ 16) {s : State} (h : s.Reading) :
    s.Consumed 0 { s with br := s.br.refill s.inMem n n } ∧
      (n ≤ (s.br.refill s.inMem n n).acclen ∨ (s.br.refill s.inMem n n).acclen = s.avail) := by
  obtain ⟨length, save, saved⟩ := Reader.refill_frame s.inMem n n s.br
  have stands := h.stands.refill hn n
  have pos := Reader.refill_pos s.inMem n n s.br
  refine ⟨⟨h.with_reader stands length, pos, length, save, saved⟩, ?_⟩
  refine (h.stands.refill_loaded hn (by omega)).imp_right fun e => ?_
  have := stands.pos_add
  rw [pos] at this
  simp only [State.avail]; omega

theorem drop_consumed {n : Nat} {s : State} (h : s.Reading) (hn : n ≤ s.br.acclen) :
    s.Consumed n { s with br := s.br.drop n } :=
  have ⟨stands, pos⟩ := h.stands.drop hn
  ⟨h.with_reader stands rfl, pos, rfl, rfl, rfl⟩

/-! ## What is read -/

/-- An operation reads `x` from the next `n` stream bits and changes the reader's cursor only. -/
def Takes {α : Type} (n : Nat) (x : α) (s : State) (a : Act (α × State)) : Prop :=
  ∃ r, a = .ok (x, { s with br := r }) ∧ s.Consumed n { s with br := r }

/-- BR.READ answers the next bits (R147). -/
theorem readBits_takes {n : Nat} (hn : n ≤ 16) {s : State} (h : s.Reading) (ha : n ≤ s.avail) :
    Takes n (s.inMem.field s.br.pos n) s (readBits n s) := by
  obtain ⟨loaded, held⟩ := refill_consumed hn h
  have enough : n ≤ (s.br.refill s.inMem n n).acclen := by omega
  refine ⟨(s.br.refill s.inMem n n).drop n, ?_, ?_⟩
  · have value := s.inMem.field_mod (s.br.refill s.inMem n n).pos enough
    rw [← loaded.1.held, Reader.refill_pos] at value
    unfold readBits
    dsimp only at value ⊢
    rw [if_neg (Nat.not_lt.mpr enough), value]
  · simpa only [Nat.zero_add] using loaded.trans (drop_consumed loaded.1 enough)

/-- The slot a table lookup finds: the next bits of the stream, missing ones read as 0 (R149). -/
def State.slot (t : DecodeTable) (s : State) : Nat := s.inMem.field s.br.pos (min t.maxLen s.avail)

/-- The entry in that slot. -/
def State.entry (t : DecodeTable) (s : State) : Entry := t.table.getD (s.slot t) 0

theorem lookupEntry_eq {t : DecodeTable} (ht : t.maxLen ≤ 15) {s : State} (h : s.Reading) :
    lookupEntry t s = (s.slot t, s.entry t, { s with br := s.br.refill s.inMem t.maxLen t.maxLen }) := by
  obtain ⟨loaded, held⟩ := refill_consumed (ht.trans (by decide)) h
  have within := loaded.1.stands.pos_add
  suffices index : (s.br.refill s.inMem t.maxLen t.maxLen).acc % 2 ^ t.maxLen = s.slot t by
    simp only [lookupEntry, index, State.entry]
  have value : (s.br.refill s.inMem t.maxLen t.maxLen).acc =
      s.inMem.field s.br.pos (s.br.refill s.inMem t.maxLen t.maxLen).acclen :=
    loaded.1.held.trans (congrArg (s.inMem.field · _) loaded.2.1)
  have most : (s.br.refill s.inMem t.maxLen t.maxLen).acclen ≤ s.avail := loaded.1.acclen_le_avail.trans_eq loaded.avail
  rw [value, State.slot]
  rcases held with held | held
  · rw [Memory.field_mod _ _ held, min_eq_left (held.trans most)]
  · rcases le_or_gt t.maxLen s.avail with enough | short
    · rw [Memory.field_mod _ _ (by omega), min_eq_left enough]
    · rw [held, min_eq_right short.le,
        Nat.mod_eq_of_lt ((s.inMem.field_lt _ _).trans (Nat.pow_lt_pow_right (by decide) short))]

/-- The loading of a table lookup, and how many bits it leaves for a code. -/
theorem lookupEntry_consumed {t : DecodeTable} (ht : t.maxLen ≤ 15) {s : State} (h : s.Reading) :
    s.Consumed 0 { s with br := s.br.refill s.inMem t.maxLen t.maxLen } ∧
      min t.maxLen s.avail ≤ (s.br.refill s.inMem t.maxLen t.maxLen).acclen := by
  obtain ⟨loaded, held⟩ := refill_consumed (ht.trans (by decide)) h
  exact ⟨loaded, by omega⟩

/-- A symbol is the one of the entry found, where its code is all there (R149). -/
theorem readSymbol_takes {t : DecodeTable} (ht : t.maxLen ≤ 15) {s : State} (h : s.Reading)
    (filled : entryLength (s.entry t) ≠ 0) (fits : entryLength (s.entry t) ≤ t.maxLen)
    (ha : entryLength (s.entry t) ≤ s.avail) :
    Takes (entryLength (s.entry t)) (entrySymbol (s.entry t)) s (readSymbol t s) := by
  obtain ⟨loaded, held⟩ := lookupEntry_consumed ht h
  have enough : entryLength (s.entry t) ≤ (s.br.refill s.inMem t.maxLen t.maxLen).acclen :=
    (le_min fits ha).trans held
  refine ⟨(s.br.refill s.inMem t.maxLen t.maxLen).drop (entryLength (s.entry t)), ?_, ?_⟩
  · unfold readSymbol
    rw [lookupEntry_eq ht h]
    simp only [consumeEntry, if_neg filled, if_neg (Nat.not_lt.mpr enough)]
  · simpa only [Nat.zero_add] using loaded.trans (drop_consumed loaded.1 enough)

/-! ## What is fetched (R91 to R97) -/

theorem fetchFields_takes (f : Format) {n m : Nat} (hn : n ≤ 16) (hm : m ≤ 16) {s : State} (h : s.Reading)
    (ha : n + m ≤ s.avail) :
    Takes (n + m) { format := f, word := s.inMem.field s.br.pos (n + m) } s (fetchFields f n m s) := by
  obtain ⟨r, low, first⟩ := readBits_takes hn h (Nat.le_of_add_right_le ha)
  obtain ⟨r', high, second⟩ := readBits_takes hm first.1 (by rw [first.avail]; omega)
  refine ⟨r', ?_, first.trans second⟩
  simp only [fetchFields, low, high, first.2.1, Memory.field_add]

theorem fetchCounts_takes {s : State} (h : s.Reading) (ha : 14 ≤ s.avail) :
    Takes 14 { format := .dynHdr, word := s.inMem.field s.br.pos 14 } s (fetchCounts s) := by
  obtain ⟨r, low, first⟩ := fetchFields_takes .dynHdr (n := 5) (m := 5) (by decide) (by decide) h (by omega)
  obtain ⟨r', high, second⟩ := readBits_takes (n := 4) (by decide) first.1 (by rw [first.avail]; omega)
  refine ⟨r', ?_, first.trans second⟩
  simp only [fetchCounts, low, high, first.2.1, Memory.field_add _ _ 10 4]

theorem fetchSymbol_takes (f : Format) (width : Nat) {t : DecodeTable} {extra : Nat → Nat} {s : State} (h : s.Reading)
    (ht : t.maxLen ≤ 15) (hx : extra (entrySymbol (s.entry t)) ≤ 16) (filled : entryLength (s.entry t) ≠ 0)
    (fits : entryLength (s.entry t) ≤ t.maxLen)
    (ha : entryLength (s.entry t) + extra (entrySymbol (s.entry t)) ≤ s.avail) :
    Takes (entryLength (s.entry t) + extra (entrySymbol (s.entry t)))
      { format := f
        word := entrySymbol (s.entry t) +
          2 ^ width * s.inMem.field (s.br.pos + entryLength (s.entry t)) (extra (entrySymbol (s.entry t))) }
      s (fetchSymbol f width t extra s) := by
  obtain ⟨r, code, first⟩ := readSymbol_takes ht h filled fits (Nat.le_of_add_right_le ha)
  obtain ⟨r', bits, second⟩ := readBits_takes hx first.1 (by rw [first.avail]; omega)
  refine ⟨r', ?_, first.trans second⟩
  simp only [fetchSymbol, code, bits, first.2.1]

/-- A distance with a code is fetched as a symbol. -/
theorem fetchDistance_symbol {s : State} (h : s.Reading) (ht : s.dec.d.maxLen ≤ 15)
    (filled : entryLength (s.entry s.dec.d) ≠ 0) :
    fetchDistance s = fetchSymbol .dist 5 s.dec.d distSymbolExtra s := by
  unfold fetchDistance
  rw [lookupEntry_eq ht h]
  simp [filled]

/-- The two patterns of the fixed distance code without a symbol (R45, R133). -/
theorem fetchDistance_noSymbol {s : State} (h : s.Reading) (fixed : s.dec.btype = .fixed)
    (table : s.dec.d = fixedDistTable) (ha : 5 ≤ s.avail)
    (pattern : s.inMem.field s.br.pos 5 = 15 ∨ s.inMem.field s.br.pos 5 = 31) :
    Takes 0 { format := .dist, word := if s.inMem.field s.br.pos 5 = 15 then 30 else 31 } s (fetchDistance s) := by
  have five : fixedDistTable.maxLen = 5 := by decide +kernel
  have ht : s.dec.d.maxLen ≤ 15 := by rw [table, five]; decide
  obtain ⟨loaded, held⟩ := lookupEntry_consumed ht h
  have slot : s.slot s.dec.d = s.inMem.field s.br.pos 5 := by rw [State.slot, table, five, min_eq_left ha]
  have unfilled : s.entry s.dec.d = 0 := by
    rw [State.entry, slot, table]
    rcases pattern with e | e <;> rw [e]
    · exact fixedDistTable_unfilled.1
    · exact fixedDistTable_unfilled.2
  have enough : ¬(s.br.refill s.inMem s.dec.d.maxLen s.dec.d.maxLen).acclen < s.dec.d.maxLen := by
    rw [table, five] at held ⊢; omega
  refine ⟨_, ?_, loaded⟩
  unfold fetchDistance
  rw [lookupEntry_eq ht h]
  simp only [fixed, unfilled, slot, pattern, enough, not_false_eq_true, and_true, true_and]
  rfl

/-! ## From a state prepared for a fetch -/

/-- What a fetch may do before it reads: a try saves its cursor (R304) and sets SDEC.state (R305), DEC.blocks takes
completed blocks (R283). -/
structure Prepared (s u : State) : Prop where
  reading : u.Reading
  pos     : u.br.pos = s.br.pos
  length  : u.br.inputLength = s.br.inputLength
  frame   : u = { s with
                  br := u.br, sdec := { s.sdec with state := u.sdec.state }
                  dec := { s.dec with blocks := u.dec.blocks } }

theorem Prepared.refl {s : State} (h : s.Reading) : Prepared s s := ⟨h, rfl, rfl, rfl⟩

theorem Prepared.trans {s t u : State} (h : Prepared s t) (h' : Prepared t u) : Prepared s u := by
  refine ⟨h'.reading, h'.pos.trans h.pos, h'.length.trans h.length, ?_⟩
  have e := h'.frame
  rw [h.frame] at e
  exact e

theorem Prepared.tryStart {s : State} (h : s.Reading) : Prepared s (tryStart s) := by
  unfold Machine.tryStart
  split
  · exact ⟨h.with_reader ⟨h.bytes, h.within, h.behind, h.width, h.held⟩ rfl, rfl, rfl, rfl⟩
  · exact .refl h

theorem State.Reading.of_fields {s t : State} (h : s.Reading) (inMem : t.inMem = s.inMem) (inKept : t.inKept = s.inKept)
    (br : t.br = s.br) : t.Reading := by
  obtain ⟨kept, length, bytes, within, behind, width, held⟩ := h
  rw [← br, ← inMem] at *
  exact ⟨inKept.trans kept, length, bytes, within, behind, width, held⟩

theorem Prepared.streamState {s : State} (h : s.Reading) (x : SdecState) : Prepared s (s.streamState x) := by
  refine ⟨h.of_fields (by simp) (by simp) (by simp), by simp, by simp, ?_⟩
  unfold State.streamState
  split <;> rfl

theorem Prepared.flushBlocks {s : State} (h : s.Reading) : Prepared s (flushBlocks s) := by
  refine ⟨h.of_fields (by simp) (by simp) (by simp), by simp, by simp, ?_⟩
  unfold Machine.flushBlocks
  split
  · dsimp only; split <;> rfl
  · rfl

/-- A fetch that reads from a prepared state. -/
theorem Prepared.fetches {s u : State} (h : Prepared s u) {f : Format} {word n : Nat} {a : Act (Raw × State)}
    (ha : Takes n { format := f, word := word } u a) (hs : fetchElement s = a) : Fetches f word n s := by
  obtain ⟨r, rfl, reading, pos, length, -, -⟩ := ha
  exact ⟨_, hs, reading, pos.trans (congrArg (· + n) h.pos), length.trans h.length,
    (congrArg (fun v : State => { v with br := r }) h.frame :)⟩

theorem Prepared.inMem {s u : State} (h : Prepared s u) : u.inMem = s.inMem := (congrArg State.inMem h.frame :)

theorem Prepared.avail {s u : State} (h : Prepared s u) : u.avail = s.avail := by
  simp only [State.avail, h.pos, h.length]

theorem Prepared.entry {s u : State} (h : Prepared s u) (t : DecodeTable) : u.entry t = s.entry t := by
  simp only [State.entry, State.slot, h.inMem, h.pos, h.avail]

/-! ## The elements of a decoding state -/

section
variable {s : State} {j : Job}

theorem fetches_blkHdr (h : s.Reading) (hs : s.seq = .decode j .blkHdr) (ha : 3 ≤ s.avail) :
    Fetches .blkHdr (s.inMem.field s.br.pos 3) 3 s := by
  have first := Prepared.streamState h .blockHeaderStart
  have prep := first.trans (.tryStart first.reading)
  rw [← prep.inMem, ← prep.pos]
  refine prep.fetches
    (fetchFields_takes .blkHdr (n := 1) (m := 2) (by decide) (by decide) prep.reading (by rwa [prep.avail])) ?_
  simp only [fetchElement, hs]

/-- The bits up to the byte boundary (R150, R263). -/
def Reader.pad (r : Reader) : Nat := 8 * ((r.pos + 7) / 8) - r.pos

theorem align_consumed (h : s.Reading) : s.Consumed s.br.pad { s with br := s.br.align } := by
  have pad : s.br.acclen % 8 = s.br.pad := by
    have := h.stands.pos_add
    simp only [Reader.pad]; omega
  rw [← pad]
  exact drop_consumed h (Nat.mod_le _ _)

theorem fetchStored_takes (h : s.Reading) (ha : s.br.pad + 32 ≤ s.avail) :
    Takes (s.br.pad + 32) { format := .stored, word := s.inMem.field (s.br.pos + s.br.pad) 32 } s
      (fetchFields .stored 16 16 { s with br := s.br.align }) := by
  have aligned := align_consumed h
  obtain ⟨r, fields, read⟩ :=
    fetchFields_takes .stored (n := 16) (m := 16) (by decide) (by decide) aligned.1 (by rw [aligned.avail]; omega)
  rw [aligned.2.1] at fields
  exact ⟨r, fields, aligned.trans read⟩

theorem fetches_stored (h : s.Reading) (hs : s.seq = .decode j .stored) (ha : s.br.pad + 32 ≤ s.avail) :
    Fetches .stored (s.inMem.field (s.br.pos + s.br.pad) 32) (s.br.pad + 32) s := by
  have prep := Prepared.tryStart h
  have pad : (tryStart s).br.pad = s.br.pad := by simp only [Reader.pad, prep.pos]
  rw [← prep.inMem, ← prep.pos, ← pad]
  refine prep.fetches (fetchStored_takes prep.reading (by rwa [prep.avail, pad])) ?_
  simp only [fetchElement, hs]

theorem fetches_dynHdr (h : s.Reading) (hs : s.seq = .decode j .dynHdr) (ha : 14 ≤ s.avail) :
    Fetches .dynHdr (s.inMem.field s.br.pos 14) 14 s := by
  have prep := Prepared.tryStart h
  rw [← prep.inMem, ← prep.pos]
  refine prep.fetches (fetchCounts_takes prep.reading (by rwa [prep.avail])) ?_
  simp only [fetchElement, hs]

theorem fetchesSymbol_iff {f : Format} {t : DecodeTable} {width : Nat} {extra : Nat → Nat} :
    FetchesSymbol f t width extra s ↔
      (t.maxLen ≤ 15 → entryLength (s.entry t) ≠ 0 → entryLength (s.entry t) ≤ t.maxLen →
        entryLength (s.entry t) + extra (entrySymbol (s.entry t)) ≤ s.avail →
        Fetches f
          (entrySymbol (s.entry t) +
            2 ^ width * s.inMem.field (s.br.pos + entryLength (s.entry t)) (extra (entrySymbol (s.entry t))))
          (entryLength (s.entry t) + extra (entrySymbol (s.entry t))) s) := Iff.rfl

/-- A symbol fetched from a prepared state. -/
theorem Prepared.fetchesSymbol {u : State} (prep : Prepared s u) {f : Format} {t : DecodeTable} {width : Nat}
    {extra : Nat → Nat} (hx : ∀ sym, extra sym ≤ 16)
    (hs : entryLength (s.entry t) ≠ 0 → t.maxLen ≤ 15 → fetchElement s = fetchSymbol f width t extra u) :
    FetchesSymbol f t width extra s := by
  rw [fetchesSymbol_iff]
  intro ht filled fits ha
  rw [← prep.entry] at filled fits ha ⊢
  rw [← prep.inMem, ← prep.pos]
  exact prep.fetches (fetchSymbol_takes f width prep.reading ht (hx _) filled fits (by rwa [prep.avail]))
    (hs (by rwa [← prep.entry]) ht)

/-- The extra bits of a code-length symbol (R96). -/
theorem clSymbolExtra_eq (lens : List Nat) :
    (fun sym => clSymbolExtra sym lens) = fun sym =>
      if sym = 16 then (if lens = [] then 0 else 2) else if sym = 17 then 3 else if sym = 18 then 7 else 0 := by
  funext sym
  simp only [clSymbolExtra, List.isEmpty_iff]

/-- The extra bits of a literal/length symbol (R105). -/
theorem litLenExtra_eq : litLenExtra = fun sym => if sym < 265 ∨ 285 ≤ sym then 0 else (sym - 261) / 4 := by
  funext sym
  rcases Nat.lt_or_ge sym 286 with h | h
  · revert sym; decide +kernel
  · rw [if_pos (by omega), litLenExtra, if_neg (by omega), List.getD_eq_default _ _ (by simp [lenExtra]; omega)]

/-- The extra bits of a distance symbol (R106). -/
theorem distSymbolExtra_eq : distSymbolExtra = fun sym => if sym < 4 ∨ 30 ≤ sym then 0 else sym / 2 - 1 := by
  funext sym
  rcases Nat.lt_or_ge sym 30 with h | h
  · revert sym; decide
  · rw [if_pos (by omega), distSymbolExtra, List.getD_eq_default _ _ (by simp [distExtra]; omega)]

theorem fetchesSymbol_clSym (h : s.Reading) (hs : s.seq = .decode j .clSym) :
    FetchesSymbol .clSym s.dec.cl 5 (fun sym => clSymbolExtra sym s.dec.hdr.lens) s :=
  (Prepared.refl h).fetchesSymbol (fun sym => (clSymbolExtra_le _ sym).trans (by decide)) fun _ _ => by
    simp only [fetchElement, hs]

theorem fetchesSymbol_litLen (h : s.Reading) (hs : s.seq = .decode j .litLen) :
    FetchesSymbol .litLen s.dec.ll 9 litLenExtra s := by
  have first := Prepared.flushBlocks h
  have prep := first.trans (.tryStart first.reading)
  have table : (tryStart (flushBlocks s)).dec.ll = s.dec.ll := (congrArg (fun u => u.dec.ll) prep.frame :)
  refine prep.fetchesSymbol (fun sym => (litLenExtra_le sym).trans (by decide)) fun _ _ => ?_
  simp only [fetchElement, hs, table]

theorem fetchesSymbol_dist (h : s.Reading) (hs : s.seq = .decode j .dist) :
    FetchesSymbol .dist s.dec.d 5 distSymbolExtra s :=
  (Prepared.refl h).fetchesSymbol (fun sym => (distSymbolExtra_le sym).trans (by decide)) fun filled ht => by
    simp only [fetchElement, hs, fetchDistance_symbol h ht filled]

theorem fetches_noSymbol (h : s.Reading) (hs : s.seq = .decode j .dist) (fixed : s.dec.btype = .fixed)
    (table : s.dec.d = fixedDistTable) (ha : 5 ≤ s.avail) :
    (s.inMem.field s.br.pos 5 = 15 → Fetches .dist 30 0 s) ∧
      (s.inMem.field s.br.pos 5 = 31 → Fetches .dist 31 0 s) := by
  have element : fetchElement s = fetchDistance s := by simp only [fetchElement, hs]
  refine ⟨fun e => ?_, fun e => ?_⟩
  · have takes := fetchDistance_noSymbol h fixed table ha (.inl e)
    rw [if_pos e] at takes
    exact (Prepared.refl h).fetches takes element
  · have takes := fetchDistance_noSymbol h fixed table ha (.inr e)
    rw [if_neg (by omega)] at takes
    exact (Prepared.refl h).fetches takes element

end

/-! ## Tokens (R122) -/

theorem fetchToken_single {s : State} {a : Slot} {rest : List Slot} (ht : s.tok.drop s.enc.tokIndex = a :: rest)
    (ha : a.toNat ≤ 256 ∨ 286 ≤ a.toNat) : fetchToken s = .ok ({ format := .token, word := a.toNat }, s) := by
  unfold fetchToken
  simp only [ht]
  rw [if_neg (by omega)]

theorem fetchToken_match {s : State} {a b c d e f : Slot} {more : List Slot}
    (ht : s.tok.drop s.enc.tokIndex = a :: b :: c :: d :: e :: f :: more) (low : 257 ≤ a.toNat) (high : a.toNat ≤ 285) :
    fetchToken s = .ok
      ({ format := .token
         word := a.toNat + 2 ^ 16 * b.toNat + 2 ^ 32 * c.toNat + 2 ^ 48 * d.toNat + 2 ^ 64 * e.toNat +
           2 ^ 80 * f.toNat }, s) := by
  unfold fetchToken
  simp only [ht]
  rw [if_pos (by omega)]
  simp only [slotsWord, Except.ok.injEq, Prod.mk.injEq, Raw.mk.injEq, true_and, and_true]
  omega

/-! ## The step (R30, R371, R376) -/

/-- What the selector of a command word writes to CFG (R131). -/
theorem Cfg.selected_eq (w : BitVec 16) (c : Cfg) :
    Cfg.selected w c =
      { c with
        blockType := if w = 0x0028 then some .stored else if w = 0x0128 then some .fixed
          else if w = 0x0228 then some .dynamic else c.blockType
        bufferStrategy := if w = 0x0030 then .block else if w = 0x0130 then .adaptive else c.bufferStrategy } := by
  simp only [← BitVec.toNat_inj]
  unfold Cfg.selected
  split <;> simp_all

theorem step_fetched {s t : State} {r : Raw} (hs : s.seq ≠ .idle) (h : fetchElement s = .ok (r, t)) {i : Instr}
    (hi : decode r = .ok i) : step s = exec i t := by
  rw [step_busy hs]
  simp only [runElement, h, hi]

theorem step_unfetched {s t : State} (hs : s.seq ≠ .idle) (h : fetchElement s = .error t) : step s = .next t := by
  rw [step_busy hs]
  simp only [runElement, h]

theorem step_decoded {s : State} {it : Issue} {rest : List Issue} {i : Instr} (hs : s.seq = .idle)
    (hp : s.port = it :: rest) (hi : decode { format := .cmd, word := it.word.toNat, ops := it.ops } = .ok i) :
    step s = exec i (accept it rest s) := by
  rw [step_command hs hp]
  simp only [runCommand, hi]

/-- Settles O5: the step by what the core does, and every fetch by what a standing reader takes from its stream. -/
theorem stepRunsTheDecodedInstruction : Obligations.StepRunsTheDecodedInstruction := by
  refine ⟨fun s => step_idle, fun s it rest i => step_decoded, fun s it rest h => ?_, fun s it rest bs h => ?_,
    Cfg.selected_eq, fun s t r i hs h hi => step_fetched hs h hi, fun s t => step_unfetched, ?_,
    fun s index maxLen e hs => ?_, fun s a rest hs ht => ⟨fun ha => ?_, fun b c d e f more low high hr => ?_⟩⟩
  · unfold accept; rw [h]
  · unfold accept; rw [h]; rfl
  · rintro s j ph hs h
    refine ⟨?_, ?_, ?_, ?_, ?_, ?_, ?_⟩ <;> rintro rfl
    · exact fetches_blkHdr h hs
    · exact fetches_stored h hs
    · exact fetches_dynHdr h hs
    · rw [← clSymbolExtra_eq]; exact fetchesSymbol_clSym h hs
    · rw [← litLenExtra_eq]; exact fetchesSymbol_litLen h hs
    · rw [← distSymbolExtra_eq]; exact fetchesSymbol_dist h hs
    · exact fetches_noSymbol h hs
  · simp only [fetchElement, hs]
  · simp only [fetchElement, hs]; exact fetchToken_single ht ha
  · simp only [fetchElement, hs]; exact fetchToken_match (hr ▸ ht) low high

end Sys2Proof.Machine
end

section
/-! PROOFS. The decode-table builder (R110, R162, R163). The canonical codes fill the slots of a table in the order of
their bits read first to last: before length `bl` is placed with HTB.code = `c`, the slots whose first `bl` bits make
a number below `c` are taken, and the codes of length `bl` take the ones from there on. So no symbol's slot is written
twice. -/

namespace Sys2Proof.Machine

/-! ## The bits of a slot, first to last (R14) -/

/-- One bit more of a slot number, read first to last. -/
theorem revBits_succ_last (n v : Nat) : revBits (n + 1) v = 2 * revBits n v + (v.testBit n).toNat := by
  induction n generalizing v with
  | zero => simp [revBits, Nat.testBit_zero]; rcases Nat.mod_two_eq_zero_or_one v with h | h <;> simp [h]
  | succ n ih =>
    rw [revBits, ih, revBits, Nat.testBit_succ, Nat.pow_succ]
    ring

theorem revBits_mod (n v : Nat) : revBits n (v % 2 ^ n) = revBits n v := by
  refine Nat.eq_of_testBit_eq fun i => ?_
  rcases Nat.lt_or_ge i n with hi | hi
  · rw [revBits_testBit _ _ _ hi, revBits_testBit _ _ _ hi, Nat.testBit_mod_two_pow]; simp; omega
  · have big (w : Nat) : (revBits n w).testBit i = false :=
      Nat.testBit_lt_two_pow ((revBits_lt n w).trans_le (Nat.pow_le_pow_right (by decide) hi))
    rw [big, big]

theorem revBits_revBits (n v : Nat) : revBits n (revBits n v) = v % 2 ^ n := by
  refine Nat.eq_of_testBit_eq fun i => ?_
  rw [Nat.testBit_mod_two_pow]
  rcases Nat.lt_or_ge i n with hi | hi
  · rw [revBits_testBit _ _ _ hi, revBits_testBit _ _ _ (by omega), show n - 1 - (n - 1 - i) = i by omega]; simp [hi]
  · rw [Nat.testBit_lt_two_pow ((revBits_lt n _).trans_le (Nat.pow_le_pow_right (by decide) hi))]; simp; omega

/-- The slots an entry is written to are those whose first bits are its code (R162). -/
theorem mod_eq_revBits_iff {n code : Nat} (h : code < 2 ^ n) (j : Nat) :
    j % 2 ^ n = revBits n code ↔ revBits n j = code := by
  constructor
  · intro e; rw [← revBits_mod, e, revBits_revBits, Nat.mod_eq_of_lt h]
  · rintro rfl; rw [revBits_revBits]

/-! ## Placing the symbols of one length -/

theorem getElem?_fillSlots (entry : Entry) (stride r first : Nat) (l : List Entry) (k : Nat) :
    (fillSlots entry stride r first l)[k]? = l[k]?.map fun e => if (first + k) % stride = r then entry else e := by
  induction l generalizing first k with
  | nil => rfl
  | cons e l ih =>
    cases k with
    | zero => rfl
    | succ k => simp only [fillSlots, List.getElem?_cons_succ, ih, show first + 1 + k = first + (k + 1) by omega]

theorem length_fillSlots (entry : Entry) (stride r first : Nat) (l : List Entry) :
    (fillSlots entry stride r first l).length = l.length := by
  induction l generalizing first with
  | nil => rfl
  | cons e l ih => simp [fillSlots, ih]

/-- The table with one more symbol, whose code is HTB.code. -/
def Build.place (bl i : Nat) (b : Build) : Build :=
  { table := fillSlots (mkEntry bl i) (2 ^ bl) (revBits bl b.code) 0 b.table, code := b.code + 1 }

theorem Build.getElem?_place {bl i : Nat} {b : Build} (h : b.code < 2 ^ bl) (j : Nat) :
    (b.place bl i).table[j]? = b.table[j]?.map fun e => if revBits bl j = b.code then mkEntry bl i else e := by
  simp only [Build.place, getElem?_fillSlots, Nat.zero_add, mod_eq_revBits_iff h]

theorem placeSymbols_other {bl l : Nat} (h : l ≠ bl) (i : Nat) (lens : List Nat) (b : Build) :
    placeSymbols bl i (l :: lens) b = placeSymbols bl (i + 1) lens b := by rw [placeSymbols, if_neg h]

theorem placeSymbols_fits {bl : Nat} {b : Build} (h : b.code < 2 ^ bl) (i : Nat) (lens : List Nat) :
    placeSymbols bl i (bl :: lens) b = placeSymbols bl (i + 1) lens (b.place bl i) := by
  rw [placeSymbols, if_pos rfl, if_neg (Nat.not_le.mpr h)]; rfl

theorem placeSymbols_full {bl : Nat} {b : Build} (h : 2 ^ bl ≤ b.code) (i : Nat) (lens : List Nat) :
    placeSymbols bl i (bl :: lens) b = .error i := by rw [placeSymbols, if_pos rfl, if_pos h]

/-- What placing the symbols of length `bl` does: slots below HTB.code stay as they are, and the symbols take the
codes from HTB.code on. -/
structure Placed (bl i : Nat) (lens : List Nat) (b b' : Build) : Prop where
  code    : b'.code = b.code + lens.count bl
  taken   : ∀ j, revBits bl j < b.code → b'.table[j]? = b.table[j]?
  length  : b'.table.length = b.table.length
  symbols : ∀ k, lens[k]? = some bl → ∀ j < b.table.length, revBits bl j = b.code + (lens.take k).count bl →
    b'.table[j]? = some (mkEntry bl (i + k))

theorem placeSymbols_placed {bl i : Nat} {lens : List Nat} {b b' : Build} (h : placeSymbols bl i lens b = .ok b') :
    Placed bl i lens b b' := by
  induction lens generalizing i b with
  | nil => cases h; exact ⟨rfl, fun _ _ => rfl, rfl, fun k hk => by simp at hk⟩
  | cons l lens ih =>
    by_cases hl : l = bl
    case neg =>
      rw [placeSymbols_other hl] at h
      obtain ⟨code, taken, length, symbols⟩ := ih h
      refine ⟨by rw [code, List.count_cons_of_ne hl], taken, length, fun k hk j hj e => ?_⟩
      cases k with
      | zero => exact absurd (Option.some.inj hk) hl
      | succ k =>
        rw [List.take_succ_cons, List.count_cons_of_ne hl] at e
        rw [symbols k hk j hj e, show i + 1 + k = i + (k + 1) by omega]
    case pos =>
      subst hl
      by_cases full : 2 ^ l ≤ b.code
      · rw [placeSymbols_full full] at h; cases h
      have room := Nat.lt_of_not_le full
      rw [placeSymbols_fits room] at h
      obtain ⟨code, taken, length, symbols⟩ := ih h
      have place := Build.getElem?_place (i := i) room
      have size : (b.place l i).table.length = b.table.length := length_fillSlots ..
      refine ⟨by rw [code, List.count_cons_self]; simp only [Build.place]; omega, fun j hj => ?_, length.trans size,
        fun k hk j hj e => ?_⟩
      · rw [taken j (Nat.lt_succ_of_lt hj), place]
        simp [Nat.ne_of_lt hj]
      · cases k with
        | zero =>
          simp only [List.take_zero, List.count_nil, Nat.add_zero] at e ⊢
          rw [taken j (e ▸ Nat.lt_succ_self _), place, List.getElem?_eq_getElem hj]
          simp [e]
        | succ k =>
          rw [List.take_succ_cons, List.count_cons_self] at e
          rw [symbols k hk j (size ▸ hj) (by simp only [Build.place]; omega), show i + 1 + k = i + (k + 1) by omega]

/-- The symbols of a length are placed if there are codes for them (R166). -/
theorem placeSymbols_ok {bl i : Nat} {lens : List Nat} {b : Build} (h : b.code + lens.count bl ≤ 2 ^ bl) :
    ∃ b', placeSymbols bl i lens b = .ok b' := by
  induction lens generalizing i b with
  | nil => exact ⟨b, rfl⟩
  | cons l lens ih =>
    by_cases hl : l = bl
    · subst hl
      rw [List.count_cons_self] at h
      rw [placeSymbols_fits (by omega)]
      exact ih (by simp only [Build.place]; omega)
    · rw [List.count_cons_of_ne hl] at h
      rw [placeSymbols_other hl]
      exact ih h

/-! ## Placing all lengths -/

/-- The first code of length `l`, as length `bl` begins with the code `c` (R110). -/
def firstCode (lens : List Nat) (bl c l : Nat) : Nat :=
  c * 2 ^ (l - bl) + (lens.map fun k => if bl ≤ k ∧ k < l then 2 ^ (l - k) else 0).sum

theorem firstCode_self (lens : List Nat) (bl c : Nat) : firstCode lens bl c bl = c := by
  have none : ∀ k, ¬(bl ≤ k ∧ k < bl) := by omega
  simp [firstCode, none]

/-- The code doubles after every length (R162). -/
theorem firstCode_next (lens : List Nat) {bl l : Nat} (c : Nat) (h : bl < l) :
    firstCode lens (bl + 1) ((c + lens.count bl) * 2) l = firstCode lens bl c l := by
  obtain ⟨d, rfl⟩ := Nat.exists_eq_add_of_lt h
  have split : (lens.map fun k => if bl ≤ k ∧ k < bl + d + 1 then 2 ^ (bl + d + 1 - k) else 0).sum =
      lens.count bl * 2 ^ (d + 1) +
        (lens.map fun k => if bl + 1 ≤ k ∧ k < bl + d + 1 then 2 ^ (bl + d + 1 - k) else 0).sum := by
    induction lens with
    | nil => simp
    | cons k lens ih =>
      rw [List.map_cons, List.sum_cons, ih, List.map_cons, List.sum_cons]
      rcases eq_or_ne k bl with rfl | hk
      · rw [List.count_cons_self, if_pos (by omega), if_neg (by omega), show k + d + 1 - k = d + 1 by omega]; ring
      · rw [List.count_cons_of_ne hk]
        have : (bl ≤ k ∧ k < bl + d + 1) ↔ (bl + 1 ≤ k ∧ k < bl + d + 1) := by omega
        simp only [this]; ring
  rw [firstCode, firstCode, split, show bl + d + 1 - (bl + 1) = d by omega, show bl + d + 1 - bl = d + 1 by omega]
  ring

theorem placeLengths_succ {lens : List Nat} {bl n : Nat} {b b' b'' : Build} (h : placeSymbols bl 0 lens b = .ok b') :
    placeLengths lens bl (n + 1) b = .ok b'' ↔
      placeLengths lens (bl + 1) n { b' with code := b'.code * 2 } = .ok b'' := by
  rw [placeLengths, h]

theorem count_take_lt {l : List Nat} {k x : Nat} (h : l[k]? = some x) : (l.take k).count x < l.count x := by
  have le := (List.take_sublist (k + 1) l).count_le x
  rw [List.take_add_one, h, List.count_append] at le
  simpa using le

/-- A slot with a symbol keeps it, and every symbol of the lengths to come has its slots. -/
theorem placeLengths_table {lens : List Nat} {bl n : Nat} {b b' : Build} (h : placeLengths lens bl n b = .ok b') :
    b'.table.length = b.table.length ∧ (∀ j, revBits bl j < b.code → b'.table[j]? = b.table[j]?) ∧
      ∀ k l, lens[k]? = some l → bl ≤ l → l < bl + n → ∀ j < b.table.length,
        revBits l j = firstCode lens bl b.code l + (lens.take k).count l → b'.table[j]? = some (mkEntry l k) := by
  induction n generalizing bl b with
  | zero => cases h; exact ⟨rfl, fun _ _ => rfl, fun k l _ low high => by omega⟩
  | succ n ih =>
    cases hp : placeSymbols bl 0 lens b with
    | error i => rw [placeLengths, hp] at h; cases h
    | ok b1 =>
      obtain ⟨code, taken, length, symbols⟩ := placeSymbols_placed hp
      obtain ⟨length', taken', symbols'⟩ := ih ((placeLengths_succ hp).mp h)
      have later (j : Nat) (hj : revBits bl j < b1.code) : b'.table[j]? = b1.table[j]? :=
        taken' j (by rw [revBits_succ_last]; have := (j.testBit bl).toNat_le; simp only; omega)
      refine ⟨length'.trans length, fun j hj => ?_, fun k l hk low high j hj e => ?_⟩
      · rw [later j (by omega), taken j hj]
      · rcases Nat.eq_or_lt_of_le low with rfl | low
        · rw [firstCode_self] at e
          have below := count_take_lt hk
          rw [later j (by omega), symbols k hk j hj e, Nat.zero_add]
        · refine symbols' k l hk low (by omega) j (length ▸ hj) ?_
          simp only [code]
          rw [firstCode_next _ _ low, e]

/-- Every length is placed if, length by length, there are codes for its symbols. -/
theorem placeLengths_ok {lens : List Nat} {bl n : Nat} {b : Build}
    (h : ∀ l, bl ≤ l → l < bl + n → firstCode lens bl b.code l + lens.count l ≤ 2 ^ l) :
    ∃ b', placeLengths lens bl n b = .ok b' := by
  induction n generalizing bl b with
  | zero => exact ⟨b, rfl⟩
  | succ n ih =>
    have room := h bl le_rfl (by omega)
    rw [firstCode_self] at room
    obtain ⟨b1, hp⟩ := placeSymbols_ok (i := 0) room
    have code := (placeSymbols_placed hp).code
    obtain ⟨b', h'⟩ := ih (bl := bl + 1) (b := { b1 with code := b1.code * 2 }) fun l low high => by
      simp only [code]
      rw [firstCode_next _ _ low]
      exact h l (by omega) (by omega)
    exact ⟨b', (placeLengths_succ hp).mpr h'⟩

/-! ## HTB.BUILD -/

theorem le_maxLen {lens : List Nat} {l : Nat} (h : l ∈ lens) : l ≤ maxLen lens := by
  have grows (m : Nat) (lens : List Nat) : m ≤ lens.foldl max m := by
    induction lens generalizing m with
    | nil => exact le_rfl
    | cons k lens ih => exact (le_max_left m k).trans (ih _)
  have all (m : Nat) : l ≤ lens.foldl max m := by
    induction lens generalizing m with
    | nil => cases h
    | cons k lens ih =>
      rcases List.mem_cons.mp h with rfl | h
      · exact (le_max_right m l).trans (grows _ lens)
      · exact ih h _
  exact all 0

theorem htbBuild_ok_iff {lens : List Nat} {t : DecodeTable} {c : Nat} :
    htbBuild lens = .ok (t, c) ↔ ∃ table,
      placeLengths lens 1 (maxLen lens) { table := List.replicate (2 ^ maxLen lens) 0, code := 0 } =
        .ok { table := table, code := c } ∧
      t = { table := table, maxLen := maxLen lens, minLen := minLen lens } := by
  unfold htbBuild
  dsimp only
  cases placeLengths lens 1 (maxLen lens) { table := List.replicate (2 ^ maxLen lens) 0, code := 0 } with
  | error i => simp
  | ok b =>
    obtain ⟨table, code⟩ := b
    simp only [Except.ok.injEq, Prod.mk.injEq, Build.mk.injEq]
    constructor
    · rintro ⟨rfl, rfl⟩; exact ⟨table, ⟨rfl, rfl⟩, rfl⟩
    · rintro ⟨_, ⟨rfl, rfl⟩, rfl⟩; exact ⟨rfl, rfl⟩

/-- The canonical code of a symbol (R110), as the builder counts it. -/
theorem canonicalCode_eq {lens : List Nat} {k l : Nat} (hk : lens[k]? = some l) :
    canonicalCode lens k = firstCode lens 1 0 l + (lens.take k).count l := by
  have fields (x : Nat) : (if x = 0 ∨ x ≥ l then 0 else 2 ^ (l - x)) = if 1 ≤ x ∧ x < l then 2 ^ (l - x) else 0 := by
    have other : (x = 0 ∨ x ≥ l) ↔ ¬(1 ≤ x ∧ x < l) := by omega
    simp only [other, ite_not]
  have value : lens.getD k 0 = l := by rw [List.getD_eq_getElem?_getD, hk]; rfl
  simp only [canonicalCode, value, fields, firstCode, Nat.zero_mul, Nat.zero_add, List.count_eq_length_filter]
  rfl

/-- Every slot whose first bits are a symbol's canonical code holds that symbol and its length (R163). -/
theorem htbBuild_entry {lens : List Nat} {t : DecodeTable} {c : Nat} (h : htbBuild lens = .ok (t, c)) {k l : Nat}
    (hk : lens[k]? = some l) (pos : 0 < l) {j : Nat} (hj : j < 2 ^ maxLen lens)
    (code : revBits l j = canonicalCode lens k) : t.table.getD j 0 = mkEntry l k := by
  obtain ⟨table, hp, rfl⟩ := htbBuild_ok_iff.mp h
  obtain ⟨-, -, symbols⟩ := placeLengths_table hp
  have le := le_maxLen (List.mem_of_getElem? hk)
  rw [List.getD_eq_getElem?_getD,
    symbols k l hk pos (by omega) j (by simpa using hj) (code.trans (canonicalCode_eq hk))]
  rfl

/-- A table is built if, length by length, there are codes for the symbols. -/
theorem htbBuild_ok {lens : List Nat} (h : ∀ l, 1 ≤ l → l ≤ maxLen lens → firstCode lens 1 0 l + lens.count l ≤ 2 ^ l) :
    ∃ c, htbBuild lens = .ok (romTable lens, c) := by
  obtain ⟨b, hb⟩ := placeLengths_ok (b := { table := List.replicate (2 ^ maxLen lens) 0, code := 0 }) (bl := 1)
    (n := maxLen lens) fun l low high => h l low (by omega)
  have built := htbBuild_ok_iff.mpr ⟨b.table, hb, rfl⟩
  exact ⟨b.code, by rw [romTable, built]⟩

/-! ## The fixed tables (R38, R112, R113) -/

theorem fixedLitLenTable_built : ∃ c, htbBuild fixedLitLens = .ok (fixedLitLenTable, c) := by
  unfold fixedLitLenTable
  refine htbBuild_ok fun l low high => ?_
  have le : l ≤ 9 := high.trans (foldl_max_le (Nat.zero_le 9) fun _ => fixedLitLens_le)
  interval_cases l <;> decide +kernel

theorem fixedDistTable_built : ∃ c, htbBuild fixedDistLens = .ok (fixedDistTable, c) := by
  unfold fixedDistTable
  refine htbBuild_ok fun l low high => ?_
  have le : l ≤ 5 := high.trans (foldl_max_le (Nat.zero_le 5) fun _ => fixedDistLens_le)
  interval_cases l <;> decide +kernel

theorem getElem?_fixedLitLens {sym : Nat} (h : sym < 288) :
    fixedLitLens[sym]? = some (if sym < 144 then 8 else if sym < 256 then 9 else if sym < 280 then 7 else 8) := by
  simp only [fixedLitLens, List.getElem?_append, List.getElem?_replicate, List.length_append, List.length_replicate]
  grind

theorem count_take_fixedLitLens (sym l : Nat) :
    (fixedLitLens.take sym).count l =
      (if l = 8 then min sym 144 else 0) + (if l = 9 then min (sym - 144) 112 else 0) +
        (if l = 7 then min (sym - 256) 24 else 0) + (if l = 8 then min (sym - 280) 8 else 0) := by
  simp only [fixedLitLens, List.take_append, List.take_replicate, List.count_append, List.count_replicate,
    List.length_append, List.length_replicate, beq_iff_eq, eq_comm (b := l)]

/-- The code R112 gives a literal/length symbol is its canonical one. -/
theorem fixedSymbolBits_eq {sym : Nat} (h : sym < 288) :
    ∃ l, fixedLitLens[sym]? = some l ∧ 0 < l ∧ l ≤ 9 ∧ canonicalCode fixedLitLens sym < 2 ^ l ∧
      fixedSymbolBits sym = msbBits (canonicalCode fixedLitLens sym) l := by
  have first7 : firstCode fixedLitLens 1 0 7 = 0 := by decide +kernel
  have first8 : firstCode fixedLitLens 1 0 8 = 0x30 := by decide +kernel
  have first9 : firstCode fixedLitLens 1 0 9 = 0x190 := by decide +kernel
  have len := getElem?_fixedLitLens h
  have code := canonicalCode_eq len
  rw [count_take_fixedLitLens] at code
  rw [fixedSymbolBits]
  rcases (by omega : sym < 144 ∨ 144 ≤ sym ∧ sym < 256 ∨ 256 ≤ sym ∧ sym < 280 ∨ 280 ≤ sym ∧ sym < 288) with
    r | r | r | r
  · rw [if_pos (by omega)] at len code
    have value : canonicalCode fixedLitLens sym = 0x30 + sym := by rw [code, first8]; simp; omega
    rw [value, if_pos (by omega)]
    exact ⟨8, len, by decide, by decide, by omega, rfl⟩
  · rw [if_neg (by omega), if_pos (by omega)] at len code
    have value : canonicalCode fixedLitLens sym = 0x190 + (sym - 144) := by rw [code, first9]; simp; omega
    rw [value, if_neg (by omega), if_pos (by omega)]
    exact ⟨9, len, by decide, by decide, by omega, rfl⟩
  · rw [if_neg (by omega), if_neg (by omega), if_pos (by omega)] at len code
    have value : canonicalCode fixedLitLens sym = sym - 256 := by rw [code, first7]; simp; omega
    rw [value, if_neg (by omega), if_neg (by omega), if_pos (by omega)]
    exact ⟨7, len, by decide, by decide, by omega, rfl⟩
  · rw [if_neg (by omega), if_neg (by omega), if_neg (by omega)] at len code
    have value : canonicalCode fixedLitLens sym = 0xC0 + (sym - 280) := by rw [code, first8]; simp; omega
    rw [value, if_neg (by omega), if_neg (by omega), if_neg (by omega)]
    exact ⟨8, len, by decide, by decide, by omega, rfl⟩

theorem getElem?_fixedDistLens {sym : Nat} (h : sym < 30) : fixedDistLens[sym]? = some 5 := by
  rw [fixedDistLens, List.getElem?_replicate, if_pos h]

/-- The code R113 gives a distance symbol is its canonical one, its number. -/
theorem canonicalCode_fixedDist {sym : Nat} (h : sym < 30) : canonicalCode fixedDistLens sym = sym := by
  have first : firstCode fixedDistLens 1 0 5 = 0 := by decide +kernel
  rw [canonicalCode_eq (getElem?_fixedDistLens h), first, fixedDistLens, List.take_replicate, List.count_replicate]
  simp; omega

end Sys2Proof.Machine
end

section
/-! PROOFS. DEC.BLOCK and DEC.ADAPTIVE on a whole stream (R260 to R277). `Decoding` says which bits of the stream are
still to come and what has been put out; a turn takes one element off those bits. -/

namespace Sys2Proof.Machine

/-! ## Bits to come -/

/-- The number a bit sequence stands for, its first bit lowest (R61). -/
def lsbValue : List Bool → Nat
  | [] => 0
  | b :: l => b.toNat + 2 * lsbValue l

/-- The stream bits from `p` on begin with these. -/
def Memory.Shows (m : Memory) (p : Nat) (l : List Bool) : Prop := ∀ i b, l[i]? = some b → m.bit (p + i) = b

theorem lsbValue_append (a b : List Bool) : lsbValue (a ++ b) = lsbValue a + 2 ^ a.length * lsbValue b := by
  induction a with
  | nil => simp [lsbValue]
  | cons x a ih => rw [List.cons_append, lsbValue, ih, lsbValue, List.length_cons, Nat.pow_succ]; ring

theorem Memory.shows_cons {m : Memory} {p : Nat} {b : Bool} {l : List Bool} :
    m.Shows p (b :: l) ↔ m.bit p = b ∧ m.Shows (p + 1) l := by
  constructor
  · refine fun h => ⟨h 0 b rfl, fun i c hc => ?_⟩
    rw [show p + 1 + i = p + (i + 1) by omega]
    exact h (i + 1) c hc
  · rintro ⟨first, rest⟩ i c hc
    cases i with
    | zero => cases hc; exact first
    | succ i => rw [show p + (i + 1) = p + 1 + i by omega]; exact rest i c hc

theorem Memory.shows_append {m : Memory} {p : Nat} {a b : List Bool} :
    m.Shows p (a ++ b) ↔ m.Shows p a ∧ m.Shows (p + a.length) b := by
  induction a generalizing p with
  | nil => simp [Memory.Shows]
  | cons x a ih =>
    rw [List.cons_append, Memory.shows_cons, ih, Memory.shows_cons, List.length_cons, and_assoc,
      show p + 1 + a.length = p + (a.length + 1) by omega]

/-- The field that bits to come make. -/
theorem Memory.Shows.field {m : Memory} {p : Nat} {l : List Bool} (h : m.Shows p l) :
    m.field p l.length = lsbValue l := by
  induction l generalizing p with
  | nil => rfl
  | cons b l ih =>
    obtain ⟨first, rest⟩ := Memory.shows_cons.mp h
    rw [List.length_cons, Memory.field, first, ih rest, lsbValue]

theorem length_lsbBits (v n : Nat) : (lsbBits v n).length = n := by simp [lsbBits]

theorem length_msbBits (v n : Nat) : (msbBits v n).length = n := by
  induction n with
  | zero => rfl
  | succ n ih => rw [msbBits, List.length_cons, ih]

theorem length_byteBits (b : Byte) : (byteBits b).length = 8 := by simp [byteBits]

theorem bytesBits_cons (b : Byte) (bs : List Byte) : bytesBits (b :: bs) = byteBits b ++ bytesBits bs := rfl

theorem length_bytesBits (bs : List Byte) : (bytesBits bs).length = 8 * bs.length := by
  induction bs with
  | nil => rfl
  | cons b bs ih => rw [bytesBits_cons, List.length_append, ih, length_byteBits, List.length_cons]; omega

theorem bytesBits_append (a b : List Byte) : bytesBits (a ++ b) = bytesBits a ++ bytesBits b := by
  simp [bytesBits]

/-- A value is what its bits stand for, the first bit lowest. -/
theorem lsbValue_lsbBits {v n : Nat} (h : v < 2 ^ n) : lsbValue (lsbBits v n) = v := by
  have mod (n : Nat) : lsbValue (lsbBits v n) = v % 2 ^ n := by
    induction n with
    | zero => simp [lsbBits, lsbValue, Nat.mod_one]
    | succ n ih =>
      have last : lsbBits v (n + 1) = lsbBits v n ++ [v.testBit n] := by simp [lsbBits, List.range_succ]
      rw [last, lsbValue_append, ih, length_lsbBits, Nat.mod_pow_succ, lsbValue, lsbValue, Nat.toNat_testBit,
        Nat.mul_zero, Nat.add_zero]
  rw [mod, Nat.mod_eq_of_lt h]

theorem lsbValue_byteBits (b : Byte) : lsbValue (byteBits b) = b.toNat := by
  have bits : byteBits b = lsbBits b.toNat 8 := by simp [byteBits, lsbBits, BitVec.testBit_toNat]
  rw [bits, lsbValue_lsbBits b.isLt]

/-- A code is stored bit-reversed (R14, R94). -/
theorem lsbValue_msbBits (v n : Nat) : lsbValue (msbBits v n) = revBits n v := by
  induction n with
  | zero => rfl
  | succ n ih => rw [msbBits, lsbValue, ih, revBits_succ_last, Nat.add_comm]

/-- Bytes laid out in a memory show their bits (R60). -/
theorem Memory.shows_bytes {m : Memory} {a : Nat} {bs : List Byte}
    (h : ∀ k b, bs[k]? = some b → m.read (a + k) = some b) :
    m.Shows (8 * a) (bytesBits bs) := by
  induction bs generalizing a with
  | nil => intro i b hb; cases hb
  | cons x bs ih =>
    rw [bytesBits_cons, Memory.shows_append, length_byteBits, show 8 * a + 8 = 8 * (a + 1) by omega]
    refine ⟨fun i b hb => ?_, ih fun k b hb => ?_⟩
    · have hi : i < 8 := by
        have := (List.getElem?_eq_some_iff.mp hb).1
        rwa [length_byteBits] at this
      rw [Memory.bit, show (8 * a + i) / 8 = a by omega, show (8 * a + i) % 8 = i by omega,
        show m.read a = some x from h 0 x rfl]
      simpa [byteBits, hi] using hb
    · rw [show a + 1 + k = a + (k + 1) by omega]
      exact h (k + 1) b hb

/-! ## Symbols (R94, R149) -/

theorem entryLength_mkEntry {l k : Nat} (hl : l < 2 ^ 16) (hk : k < 2 ^ 16) : entryLength (mkEntry l k) = l := by
  rw [entryLength, mkEntry, BitVec.toNat_ofNat]; omega

theorem entrySymbol_mkEntry {l k : Nat} (hk : k < 2 ^ 16) : entrySymbol (mkEntry l k) = k := by
  rw [entrySymbol, mkEntry, BitVec.toNat_ofNat]; omega

/-- Where a symbol's canonical code is to come, its entry is the one found (R163). -/
theorem entry_of_code {lens : List Nat} {t : DecodeTable} {c : Nat} (h : htbBuild lens = .ok (t, c)) {s : State}
    {k l : Nat} (hk : lens[k]? = some l) (pos : 0 < l) (small : canonicalCode lens k < 2 ^ l)
    (code : s.inMem.Shows s.br.pos (msbBits (canonicalCode lens k) l)) (ha : l ≤ s.avail) :
    s.entry t = mkEntry l k := by
  have max : t.maxLen = maxLen lens := by obtain ⟨table, -, rfl⟩ := htbBuild_ok_iff.mp h; rfl
  have fits : l ≤ min t.maxLen s.avail := le_min (max ▸ le_maxLen (List.mem_of_getElem? hk)) ha
  have slot : s.slot t < 2 ^ maxLen lens :=
    (s.inMem.field_lt _ _).trans_le (Nat.pow_le_pow_right (by decide) (max ▸ min_le_left _ _))
  refine htbBuild_entry h hk pos slot ((mod_eq_revBits_iff small _).mp ?_)
  rw [State.slot, Memory.field_mod _ _ fits, ← lsbValue_msbBits, ← code.field, length_msbBits]

/-! ## A decode in progress -/

theorem tryStart_of_not_stream {s : State} {job : Job} {ph : Phase} (hs : s.seq = .decode job ph) (hj : job ≠ .stream) :
    tryStart s = s := by
  unfold tryStart
  split
  next e => rw [hs] at e; cases e; exact absurd rfl hj
  next => rfl

theorem exhausted_of_not_stream {s : State} {job : Job} {ph : Phase} (hs : s.seq = .decode job ph)
    (hj : job ≠ .stream) : exhausted s = raise .eTruncated s.br.pos s := by
  unfold exhausted
  rw [hs]
  cases job with
  | stream => exact absurd rfl hj
  | block => rfl
  | adaptive => rfl

theorem length_copyBytes (dist n : Nat) (o : List Byte) : (copyBytes dist n o).length = o.length + n := by
  induction n generalizing o with
  | zero => rfl
  | succ n ih => rw [copyBytes, ih, List.length_append, List.length_singleton]; omega

/-- The decode that `job` began on `s0` stands before an element of kind `ph`: the bits `l` are to come, up to the
stream position `stop`; the decoder's registers are `d`, but for the completed blocks, which hold a beginning of the
output. -/
structure Decoding (s0 : State) (job : Job) (stop : Nat) (ph : Phase) (d : Dec) (l : List Bool) (s : State) : Prop where
  frame   : s = { s0 with br := s.br, dec := { d with blocks := s.dec.blocks }, seq := .decode job ph }
  reading : s.Reading
  shows   : s.inMem.Shows s.br.pos l
  ends    : s.br.pos + l.length = stop
  room    : stop ≤ 8 * s.br.inputLength
  blocks  : s.dec.blocks.flatten <+: d.out

/-- The decode is over and has returned `out`; the reader stands at `stop`. -/
structure Decoded (s0 : State) (stop : Nat) (out : List Byte) (t : State) : Prop where
  frame : t = { s0 with
                br := t.br, dec := t.dec, status := { s0.status with done := true }
                result := .bytes out, seq := .idle }
  out   : t.dec.out = out
  pos   : t.br.pos = stop

/-- The ceiling admits an output of `n` bytes (R277). -/
def Admits (s0 : State) (job : Job) (n : Nat) : Prop := job = .block ∨ ∀ m, s0.params.maxOutputBytes = some m → n ≤ m

theorem Admits.mono {s0 : State} {job : Job} {n k : Nat} (h : Admits s0 job n) (hk : k ≤ n) : Admits s0 job k :=
  h.imp_right fun h m hm => hk.trans (h m hm)

section
variable {s0 s u : State} {job : Job} {stop : Nat} {ph : Phase} {d : Dec} {l : List Bool}

namespace Decoding

theorem seq (h : Decoding s0 job stop ph d l s) : s.seq = .decode job ph := (congrArg State.seq h.frame :)

theorem dec (h : Decoding s0 job stop ph d l s) : s.dec = { d with blocks := s.dec.blocks } :=
  (congrArg State.dec h.frame :)

theorem params (h : Decoding s0 job stop ph d l s) : s.params = s0.params := (congrArg State.params h.frame :)

theorem out (h : Decoding s0 job stop ph d l s) : s.dec.out = d.out := (congrArg Dec.out h.dec :)

theorem length_le_avail (h : Decoding s0 job stop ph d l s) : l.length ≤ s.avail := by
  have := h.ends
  have := h.room
  simp only [State.avail]; omega

/-- Other registers, the next element. -/
theorem become (h : Decoding s0 job stop ph d l s) (d' : Dec) (ph' : Phase) (grows : d.out <+: d'.out) :
    Decoding s0 job stop ph' d' l { s with dec := { d' with blocks := s.dec.blocks }, seq := .decode job ph' } where
  frame := (congrArg
    (fun v : State => { v with dec := { d' with blocks := s.dec.blocks }, seq := .decode job ph' }) h.frame :)
  reading := h.reading.of_fields rfl rfl rfl
  shows := h.shows
  ends := h.ends
  room := h.room
  blocks := h.blocks.trans grows

/-- An update of the registers that is not about the completed blocks, and the next element. -/
theorem update (h : Decoding s0 job stop ph d l s) (g : Dec → Dec) (ph' : Phase) (grows : d.out <+: (g d).out)
    (keeps : ∀ d bs, g { d with blocks := bs } = { g d with blocks := bs } := by exact fun _ _ => rfl) :
    Decoding s0 job stop ph' (g d) l { s with dec := g s.dec, seq := .decode job ph' } := by
  have dec : g s.dec = { g d with blocks := s.dec.blocks } := (congrArg g h.dec).trans (keeps d _)
  rw [dec]
  exact h.become (g d) ph' grows

/-- Such an update before the same element. -/
theorem updateDec (h : Decoding s0 job stop ph d l s) (g : Dec → Dec) (grows : d.out <+: (g d).out)
    (keeps : ∀ d bs, g { d with blocks := bs } = { g d with blocks := bs } := by exact fun _ _ => rfl) :
    Decoding s0 job stop ph (g d) l { s with dec := g s.dec } := by
  have next := h.update g ph grows keeps
  rw [← h.seq] at next
  exact next

/-- Bits are read. -/
theorem takes {α : Type} {a : List Bool} {x : α} {act : Act (α × State)}
    (h : Decoding s0 job stop ph d (a ++ l) s) (ht : Takes a.length x s act) :
    ∃ u, act = .ok (x, u) ∧ Decoding s0 job stop ph d l u := by
  obtain ⟨r, rfl, reading, pos, length, -, -⟩ := ht
  refine ⟨_, rfl, ?_, reading, ?_, ?_, ?_, h.blocks⟩
  · exact (congrArg (fun v : State => { v with br := r }) h.frame :)
  · rw [pos]; exact (Memory.shows_append.mp h.shows).2
  · rw [pos, ← h.ends, List.length_append, Nat.add_assoc]
  · rw [length]; exact h.room

theorem first {a : List Bool} (h : Decoding s0 job stop ph d (a ++ l) s) : s.inMem.Shows s.br.pos a :=
  (Memory.shows_append.mp h.shows).1

theorem first_le_avail {a : List Bool} (h : Decoding s0 job stop ph d (a ++ l) s) : a.length ≤ s.avail := by
  have := h.length_le_avail
  rw [List.length_append] at this; omega

theorem withBlocks (h : Decoding s0 job stop ph d l s) {bs : List (List Byte)} (hb : bs.flatten <+: d.out) :
    Decoding s0 job stop ph d l { s with dec := { s.dec with blocks := bs } } where
  frame := (congrArg (fun v : State => { v with dec := { v.dec with blocks := bs } }) h.frame :)
  reading := h.reading.of_fields rfl rfl rfl
  shows := h.shows
  ends := h.ends
  room := h.room
  blocks := hb

/-- Completed blocks are set aside (R283). -/
theorem flush (h : Decoding s0 job stop ph d l s) : Decoding s0 job stop ph d l (flushBlocks s) := by
  have tail : s.dec.blocks.flatten ++ s.dec.out.drop s.dec.flushed = d.out := by
    rw [Dec.flushed_eq, h.out]; exact List.prefix_iff_eq_append.mp h.blocks
  unfold flushBlocks
  split
  · dsimp only
    split
    · refine h.withBlocks ?_
      rw [List.flatten_append, List.flatten_singleton, ← tail]
      exact (List.prefix_append_right_inj _).mpr (List.take_prefix _ _)
    · exact h
  · exact h

/-- One byte more, where the ceiling admits it (R277). -/
theorem emit (h : Decoding s0 job stop ph d l s) (b : Byte) (adm : Admits s0 job (d.out.length + 1)) :
    ∃ u, Machine.emit b s = .ok u ∧ Decoding s0 job stop ph { d with out := d.out ++ [b] } l u := by
  refine ⟨_, ?_, h.updateDec (fun d => { d with out := d.out ++ [b] }) (List.prefix_append _ _)⟩
  rcases emit_cases b s with e | ⟨ceiling, other, -⟩
  · exact e
  · exfalso
    rcases adm with rfl | adm
    · exact other (by rw [State.job, h.seq])
    · have := adm _ (h.params ▸ ceiling)
      rw [Dec.op, h.out] at this; omega

/-- A match is copied byte by byte (R276). -/
theorem copyMatch (dist : Nat) {n : Nat} {d : Dec} {s : State} (h : Decoding s0 job stop ph d l s)
    (adm : Admits s0 job (d.out.length + n)) :
    ∃ u, Machine.copyMatch dist n s = .ok u ∧
      Decoding s0 job stop ph { d with out := copyBytes dist n d.out } l u := by
  induction n generalizing d s with
  | zero => exact ⟨s, rfl, h⟩
  | succ n ih =>
    obtain ⟨u, emitted, hu⟩ := h.emit (s.dec.out.getD (s.dec.op - dist) 0) (adm.mono (by omega))
    obtain ⟨v, copied, hv⟩ := ih hu (by simpa [Nat.add_assoc, Nat.add_comm 1] using adm)
    rw [Dec.op, h.out] at *
    refine ⟨v, ?_, hv⟩
    rw [Machine.copyMatch, Dec.op, h.out, emitted]
    exact copied

/-- The last block of DEC.* has ended. -/
theorem endBlock (h : Decoding s0 job stop ph d [] s) (hj : job ≠ .stream) (final : d.bfinal = true) :
    Decoded s0 stop d.out (Machine.endBlock s) := by
  have last : s.dec.bfinal = true := (congrArg Dec.bfinal h.dec).trans final
  rw [endBlock_decode h.seq hj last (.inl (h.out ▸ h.blocks)), h.out]
  have frame := h.frame
  rw [← h.dec] at frame
  exact ⟨(congrArg (answerDone d.out) frame :), h.out, h.ends⟩

/-- A block that is not the last has ended: the next header is to come. -/
theorem endBlock_more (h : Decoding s0 job stop ph d l s) (hj : job ≠ .stream) (more : d.bfinal = false) :
    Decoding s0 job stop .blkHdr d l (Machine.endBlock s) := by
  have last : s.dec.bfinal = false := (congrArg Dec.bfinal h.dec).trans more
  rw [Machine.endBlock_more h.seq last, if_neg hj]
  have next := h.become d .blkHdr (List.prefix_refl _)
  rw [← h.dec] at next
  exact next

/-! ### What is fetched -/

theorem fetch_blkHdr {a : List Bool} (h : Decoding s0 job stop .blkHdr d (a ++ l) s) (hj : job ≠ .stream)
    (ha : a.length = 3) :
    ∃ u, fetchElement s = .ok ({ format := .blkHdr, word := lsbValue a }, u) ∧ Decoding s0 job stop .blkHdr d l u := by
  have takes := fetchFields_takes .blkHdr (n := 1) (m := 2) (by decide) (by decide) h.reading
    (ha.symm.trans_le h.first_le_avail)
  rw [show 1 + 2 = a.length from ha.symm, h.first.field] at takes
  obtain ⟨u, fetched, hu⟩ := h.takes takes
  refine ⟨u, ?_, hu⟩
  simp only [fetchElement, h.seq]
  rw [streamState_of_not_stream h.seq hj, tryStart_of_not_stream h.seq hj]
  exact fetched

/-- A stored header, after the bits up to the byte boundary (R263). -/
theorem fetch_stored {pad a : List Bool} (h : Decoding s0 job stop .stored d (pad ++ (a ++ l)) s) (hj : job ≠ .stream)
    (hp : pad.length = s.br.pad) (ha : a.length = 32) :
    ∃ u, fetchElement s = .ok ({ format := .stored, word := lsbValue a }, u) ∧ Decoding s0 job stop .stored d l u := by
  rw [← List.append_assoc] at h
  have room := h.first_le_avail
  rw [List.length_append, hp, ha] at room
  have takes := fetchStored_takes h.reading room
  have field := (Memory.shows_append.mp h.first).2.field
  rw [ha, hp] at field
  rw [field, show s.br.pad + 32 = (pad ++ a).length by rw [List.length_append, hp, ha]] at takes
  obtain ⟨u, fetched, hu⟩ := h.takes takes
  refine ⟨u, ?_, hu⟩
  simp only [fetchElement, h.seq]
  rw [tryStart_of_not_stream h.seq hj]
  exact fetched

/-- A symbol whose canonical code is to come, with its extra bits (R97). -/
theorem fetchSymbol {lens : List Nat} {t : DecodeTable} {c k n : Nat} {ex : List Bool} (f : Format) (width : Nat)
    {extra : Nat → Nat}
    (h : Decoding s0 job stop ph d (msbBits (canonicalCode lens k) n ++ ex ++ l) s) (ht : htbBuild lens = .ok (t, c))
    (hk : lens[k]? = some n) (pos : 0 < n) (small : canonicalCode lens k < 2 ^ n) (max : t.maxLen ≤ 15)
    (sym : k < 2 ^ 16) (hx : ex.length = extra k) (room : extra k ≤ 16) :
    ∃ u, Machine.fetchSymbol f width t extra s = .ok ({ format := f, word := k + 2 ^ width * lsbValue ex }, u) ∧
      Decoding s0 job stop ph d l u := by
  have le := le_maxLen (List.mem_of_getElem? hk)
  have tmax : t.maxLen = maxLen lens := by obtain ⟨table, -, rfl⟩ := htbBuild_ok_iff.mp ht; rfl
  obtain ⟨code, after⟩ := Memory.shows_append.mp h.first
  have avail := h.first_le_avail
  rw [List.length_append, length_msbBits, hx] at avail
  have entry := entry_of_code ht hk pos small code (by omega)
  have hl : entryLength (s.entry t) = n := by rw [entry, entryLength_mkEntry (by omega) sym]
  have hs : entrySymbol (s.entry t) = k := by rw [entry, entrySymbol_mkEntry sym]
  have takes := fetchSymbol_takes f width (extra := extra) h.reading max (by rwa [hs]) (by omega) (by omega)
    (by rw [hl, hs]; exact avail)
  have field := after.field
  rw [length_msbBits, hx] at field
  rw [hl, hs, field, show n + extra k = (msbBits (canonicalCode lens k) n ++ ex).length by
    rw [List.length_append, length_msbBits, hx]] at takes
  exact h.takes takes

/-- A literal/length symbol in the fixed code (R112). -/
theorem fetch_litLen {k : Nat} {ex : List Bool} (h : Decoding s0 job stop .litLen d (fixedSymbolBits k ++ ex ++ l) s)
    (hj : job ≠ .stream) (table : d.ll = fixedLitLenTable) (hk : k < 288) (hx : ex.length = litLenExtra k) :
    ∃ u, fetchElement s = .ok ({ format := .litLen, word := k + 2 ^ 9 * lsbValue ex }, u) ∧
      Decoding s0 job stop .litLen d l u := by
  obtain ⟨n, len, pos, -, small, bits⟩ := fixedSymbolBits_eq hk
  obtain ⟨c, built⟩ := fixedLitLenTable_built
  rw [bits] at h
  obtain ⟨u, fetched, hu⟩ := h.flush.fetchSymbol .litLen 9 (extra := litLenExtra) built len pos small
    (fixedLitLenTable_maxLen.trans (by decide)) (by omega) hx ((litLenExtra_le k).trans (by decide))
  refine ⟨u, ?_, hu⟩
  have ll : (flushBlocks s).dec.ll = fixedLitLenTable := (congrArg Dec.ll h.flush.dec).trans table
  simp only [fetchElement, h.seq]
  rw [tryStart_of_not_stream h.flush.seq hj, ll]
  exact fetched

/-- A distance symbol in the fixed code (R113). -/
theorem fetch_dist {k : Nat} {ex : List Bool} (h : Decoding s0 job stop .dist d (msbBits k 5 ++ ex ++ l) s)
    (table : d.d = fixedDistTable) (hk : k < 30) (hx : ex.length = distSymbolExtra k) :
    ∃ u, fetchElement s = .ok ({ format := .dist, word := k + 2 ^ 5 * lsbValue ex }, u) ∧
      Decoding s0 job stop .dist d l u := by
  obtain ⟨c, built⟩ := fixedDistTable_built
  have len := getElem?_fixedDistLens hk
  have small : canonicalCode fixedDistLens k < 2 ^ 5 := by rw [canonicalCode_fixedDist hk]; omega
  have max : fixedDistTable.maxLen ≤ 15 := fixedDistTable_maxLen.trans (by decide)
  rw [← canonicalCode_fixedDist hk] at h
  obtain ⟨u, fetched, hu⟩ := h.fetchSymbol .dist 5 (extra := distSymbolExtra) built len (by decide) small max
    (by omega) hx ((distSymbolExtra_le k).trans (by decide))
  refine ⟨u, ?_, hu⟩
  have dd : s.dec.d = fixedDistTable := (congrArg Dec.d h.dec).trans table
  have avail := h.first_le_avail
  rw [List.length_append, length_msbBits] at avail
  have entry := entry_of_code built len (by decide) small (Memory.shows_append.mp h.first).1 (by omega)
  have filled : entryLength (s.entry s.dec.d) ≠ 0 := by
    rw [dd, entry, entryLength_mkEntry (by decide) (by omega)]; decide
  simp only [fetchElement, h.seq]
  rw [fetchDistance_symbol h.reading (dd ▸ max) filled, dd]
  exact fetched

end Decoding

end

/-! ## Turns -/

/-- One turn of a running command. -/
def Turns (s t : State) : Prop := s.seq ≠ .idle ∧ turn s = .next t

/-- The command's turns lead to an end of which `P` holds. -/
def Reaches (P : State → Prop) (s : State) : Prop := ∃ t, Relation.ReflTransGen Turns s t ∧ P t

theorem Reaches.of_holds {P : State → Prop} {s : State} (h : P s) : Reaches P s := ⟨s, .refl, h⟩

theorem Reaches.turn {P : State → Prop} {s t : State} (h : Turns s t) (ht : Reaches P t) : Reaches P s :=
  ht.imp fun _ ⟨run, hu⟩ => ⟨.head h run, hu⟩

/-- As many turns as there is work left are enough. -/
theorem runTurns_of_turns {s t : State} (h : Relation.ReflTransGen Turns s t) (idle : t.seq = .idle) {fuel : Nat}
    (hw : s.workLeft < fuel) : runTurns fuel s = .next t := by
  induction h using Relation.ReflTransGen.head_induction_on generalizing fuel with
  | refl => exact runTurns_of_idle idle fuel
  | head first rest ih =>
    rename_i s u
    obtain ⟨busy, hu⟩ := first
    obtain ⟨fuel, rfl⟩ : ∃ n, fuel = n + 1 := ⟨fuel - 1, by omega⟩
    have step : runTurns (fuel + 1) s = runTurns fuel u := by
      rw [runTurns, hu]
      split
      next e => exact absurd e busy
      next => rfl
    rw [step]
    rcases turn_leads s u hu with ended | on
    · have same : t = u := by
        rcases rest.cases_head with e | ⟨v, ⟨busy, -⟩, -⟩
        · exact e.symm
        · exact absurd ended.idle busy
      rw [same, runTurns_of_idle ended.idle]
    · exact ih (by have := on.work; omega)

theorem settle_of_reaches {P : State → Prop} {s : State} (hg : s.grain = .command)
    (h : Reaches (fun t => t.seq = .idle ∧ P t) s) : ∃ t, settle s = .next t ∧ P t := by
  obtain ⟨t, run, idle, ht⟩ := h
  refine ⟨t, ?_, ht⟩
  unfold settle
  rw [hg]
  exact runTurns_of_turns run idle (workLeft_lt_turnBound s)

/-- A turn executes what it has fetched. -/
theorem Turns.of_fetched {s u t : State} {r : Raw} {i : Instr} (busy : s.seq ≠ .idle)
    (fetched : fetchElement s = .ok (r, u)) (hi : decode r = .ok i) (ht : execElement i u = .next t) : Turns s t := by
  refine ⟨busy, ?_⟩
  simp only [Machine.turn, fetched, hi, ht]

theorem Decoding.busy {s0 s : State} {job : Job} {stop : Nat} {ph : Phase} {d : Dec} {l : List Bool}
    (h : Decoding s0 job stop ph d l s) : s.seq ≠ .idle := by
  rw [h.seq]; exact Seq.noConfusion

/-! ## Length and distance symbols (R105, R106) -/

theorem withExtra_ok {w x : Nat} (h : x < 2 ^ w) (f : BitVec w → Instr) :
    withExtra w f x = .ok (f (BitVec.ofNat w x)) := if_pos h

/-- A symbol whose meaning takes `base` and its extra bits together. -/
theorem withExtra_means {w x base : Nat} {f : BitVec w → Instr} {R : Nat → State → Outcome} (hx : x < 2 ^ w)
    (hf : ∀ b u, execElement (f b) u = R (base + b.toNat) u) :
    ∃ i, withExtra w f x = .ok i ∧ ∀ u, execElement i u = R (base + x) u :=
  ⟨_, withExtra_ok hx f, fun u => by rw [hf, BitVec.toNat_ofNat, Nat.mod_eq_of_lt hx]⟩

/-- A literal's byte. -/
theorem decodeLitLen_literal {b : Nat} (h : b ≤ 255) : decodeLitLen b = .ok (.lit (BitVec.ofNat 8 b)) := by
  unfold decodeLitLen
  rw [if_pos (show b % 512 < 256 by omega), show b / 512 = 0 by omega]
  rfl

theorem takeLength_of_decode {s : State} {j : Job} {ph : Phase} (h : s.seq = .decode j ph) (n : Nat) :
    takeLength n s = { s with dec := { s.dec with matchLen := n }, seq := .decode j .dist } :=
  goto_of_decode (s := { s with dec := { s.dec with matchLen := n } }) h .dist

/-- A length symbol, with its extra bits, gives its length. -/
theorem decodeLitLen_length {k x : Nat} (low : 257 ≤ k) (high : k ≤ 285) (hx : x < 2 ^ litLenExtra k) :
    ∃ i, decodeLitLen (k + 2 ^ 9 * x) = .ok i ∧
      ∀ u, execElement i u = .next (takeLength (lenBase.getD (k - 257) 0 + x) u) := by
  unfold decodeLitLen
  rw [show (k + 2 ^ 9 * x) % 512 = k by omega, show (k + 2 ^ 9 * x) / 512 = x by omega, if_neg (by omega)]
  by_cases without : k < 265 ∨ 285 ≤ k
  · rw [litLenExtra_eq] at hx
    obtain rfl : x = 0 := by simpa [without] using hx
    rcases without with below | above
    · interval_cases k <;> exact ⟨_, rfl, fun _ => rfl⟩
    · obtain rfl : k = 285 := by omega
      exact ⟨_, rfl, fun _ => rfl⟩
  · have bounds : 265 ≤ k ∧ k ≤ 284 := by omega
    obtain ⟨low, high⟩ := bounds
    clear without
    interval_cases k <;>
      exact withExtra_means (R := fun n u => .next (takeLength n u)) hx fun _ _ => rfl

/-- A distance symbol, with its extra bits, gives its distance. -/
theorem decodeDist_distance {k x : Nat} (high : k < 30) (hx : x < 2 ^ distSymbolExtra k) :
    ∃ i, decodeDist (k + 2 ^ 5 * x) = .ok i ∧
      ∀ u, execElement i u = conclude (takeDistance (distBase.getD k 0 + x) u) := by
  unfold decodeDist
  rw [show (k + 2 ^ 5 * x) % 32 = k by omega, show (k + 2 ^ 5 * x) / 32 = x by omega]
  by_cases without : k < 4
  · rw [distSymbolExtra_eq] at hx
    obtain rfl : x = 0 := by simpa [without] using hx
    interval_cases k <;> exact ⟨_, rfl, fun _ => rfl⟩
  · have low : 4 ≤ k := by omega
    clear without
    interval_cases k <;> exact withExtra_means (R := fun n u => conclude (takeDistance n u)) hx fun _ _ => rfl

/-! ## Block by block -/

/-- What tokens stand for comes after what was there. -/
theorem Token.length_le_of_expand {toks : List Token} {o data : List Byte} (h : Token.expand toks o = some data) :
    o.length ≤ data.length := by
  induction toks generalizing o with
  | nil => cases h; exact le_rfl
  | cons k toks ih =>
    cases k with
    | lit b => exact (List.length_append ▸ Nat.le_add_right _ _).trans (ih h)
    | eob => exact ih h
    | copy lc le lv dc de dv =>
      rw [Token.expand] at h
      split at h
      next =>
        have := ih h
        rw [length_copyBytes] at this; omega
      next => cases h

theorem eq_block_or_adaptive {job : Job} (h : job ≠ .stream) : job = .block ∨ job = .adaptive := by
  cases job <;> simp_all

/-- LEN and NLEN as one number (R93). -/
theorem lsbValue_storedLengths {n : Nat} (h : n ≤ 65535) :
    lsbValue (bytesBits (storedLengths n)) = n + 2 ^ 16 * (65535 - n) := by
  simp only [storedLengths, bytesBits_cons, lsbValue_append, lsbValue_byteBits, length_byteBits, BitVec.toNat_not,
    BitVec.toNat_ofNat]
  simp only [bytesBits, List.map_nil, List.flatten_nil, lsbValue]
  omega

/-- A stored header whose lengths agree (R93, R263). -/
theorem decodeStored_lengths {n : Nat} (h : n ≤ 65535) :
    ∃ len nlen : BitVec 16, decodeStored (n + 2 ^ 16 * (65535 - n)) = .ok (.storedHdr len nlen) ∧ len.toNat = n ∧
      len ^^^ nlen = 0xFFFF := by
  have not : BitVec.ofNat 16 (65535 - n) = ~~~BitVec.ofNat 16 n := by
    apply BitVec.eq_of_toNat_eq
    rw [BitVec.toNat_not, BitVec.toNat_ofNat, BitVec.toNat_ofNat]; omega
  refine ⟨BitVec.ofNat 16 n, ~~~BitVec.ofNat 16 n, ?_, by rw [BitVec.toNat_ofNat]; omega, ?_⟩
  · unfold decodeStored
    rw [if_pos (by omega), show (n + 2 ^ 16 * (65535 - n)) / 2 ^ 16 = 65535 - n by omega, not]
    congr 2
    apply BitVec.eq_of_toNat_eq
    rw [BitVec.toNat_ofNat, BitVec.toNat_ofNat]; omega
  · rw [show (0xFFFF : BitVec 16) = BitVec.allOnes 16 from rfl]
    ext i hi
    rw [BitVec.getElem_xor, BitVec.getElem_not, BitVec.getElem_allOnes, Bool.xor_not_self]

section
variable {s0 s : State} {job : Job} {stop : Nat} {ph : Phase} {d : Dec} {l : List Bool}

namespace Decoding

/-- A stored block's header bits. -/
theorem turn_stored {final : Bool} (h : Decoding s0 job stop .blkHdr d ([final, false, false] ++ l) s)
    (hj : job ≠ .stream) :
    ∃ t, Turns s t ∧ Decoding s0 job stop .stored { d with bfinal := final, btype := .stored } l t := by
  obtain ⟨u, fetched, hu⟩ := h.fetch_blkHdr hj rfl
  refine ⟨_, .of_fetched (i := .blockStored final) h.busy fetched (by cases final <;> rfl) ?_,
    hu.update (fun d => { d with bfinal := final, btype := .stored }) .stored (List.prefix_refl _)⟩
  rcases eq_block_or_adaptive hj with rfl | rfl <;>
    simp [execElement, execBlockStored, blockHeader, State.streamState, State.goto, hu.seq]

/-- A final fixed block's header bits (R265). -/
theorem turn_fixed (h : Decoding s0 job stop .blkHdr d ([true, true, false] ++ l) s) (hj : job ≠ .stream) :
    ∃ t, Turns s t ∧ Decoding s0 job stop .litLen
      { d with bfinal := true, btype := .fixed, ll := fixedLitLenTable, d := fixedDistTable } l t := by
  obtain ⟨u, fetched, hu⟩ := h.fetch_blkHdr hj rfl
  refine ⟨_, .of_fetched (i := .blockFixed true) h.busy fetched rfl ?_,
    hu.update (fun d => { d with bfinal := true, btype := .fixed, ll := fixedLitLenTable, d := fixedDistTable }) .litLen
      (List.prefix_refl _)⟩
  rcases eq_block_or_adaptive hj with rfl | rfl <;>
    simp [execElement, execBlockFixed, blockHeader, useFixedTables, State.streamState, State.goto, hu.seq]

/-- The bytes of a stored block (R264). -/
theorem copyStored {data : List Byte} (h : Decoding s0 job stop ph d (bytesBits data ++ l) s) (hj : job ≠ .stream)
    (adm : Admits s0 job (d.out.length + data.length)) :
    ∃ u n, Machine.copyStored data.length s = .ok u ∧
      Decoding s0 job stop ph { d with out := d.out ++ data, blockLen := n } l u := by
  induction data generalizing d s with
  | nil => exact ⟨s, d.blockLen, rfl, by rw [List.append_nil]; exact h⟩
  | cons b data ih =>
    rw [bytesBits_cons, List.append_assoc] at h
    have bits := readBits_takes (n := 8) (by decide) h.flush.reading
      ((length_byteBits b).symm.trans_le h.flush.first_le_avail)
    have value := h.flush.first.field
    rw [length_byteBits, lsbValue_byteBits] at value
    rw [value] at bits
    obtain ⟨u, read, hu⟩ := h.flush.takes (a := byteBits b) (by rw [length_byteBits]; exact bits)
    obtain ⟨v, emitted, hv⟩ := hu.emit b (adm.mono (by rw [List.length_cons]; omega))
    have counted := hv.updateDec (fun d => { d with blockLen := data.length }) (List.prefix_refl _)
    obtain ⟨w, n, copied, done⟩ := ih counted (by
      rw [List.length_append, List.length_singleton, Nat.add_assoc, Nat.add_comm 1]; exact adm)
    rw [List.append_assoc] at done
    refine ⟨w, n, ?_, done⟩
    have other : ¬(8 * s.br.inputLength - s.br.pos < 8 ∧ s.job = some .stream) := by
      rw [State.job, h.seq]; simp [hj]
    rw [List.length_cons, Machine.copyStored, if_neg other, read]
    dsimp only
    rw [BitVec.ofNat_toNat, BitVec.setWidth_eq, emitted]
    exact copied

/-- A stored header that agrees, and the bytes it announces (R263, R264). -/
theorem turn_storedBody {pad : List Bool} {data : List Byte}
    (h : Decoding s0 job stop .stored d (pad ++ (bytesBits (storedLengths data.length) ++ (bytesBits data ++ l))) s)
    (hj : job ≠ .stream) (hp : pad.length = s.br.pad) (size : data.length ≤ 65535)
    (adm : Admits s0 job (d.out.length + data.length)) :
    ∃ u n, Turns s (Machine.endBlock u) ∧
      Decoding s0 job stop .stored { d with out := d.out ++ data, blockLen := n } l u := by
  obtain ⟨u, fetched, hu⟩ := h.fetch_stored hj hp (length_bytesBits _)
  rw [lsbValue_storedLengths size] at fetched
  obtain ⟨len, nlen, decoded, hlen, agree⟩ := decodeStored_lengths size
  have counted := hu.updateDec (fun d => { d with blockLen := len.toNat }) (List.prefix_refl _)
  obtain ⟨v, n, copied, done⟩ := counted.copyStored hj adm
  refine ⟨v, n, .of_fetched h.busy fetched decoded ?_, done⟩
  have enough : ¬(State.job { u with dec := { u.dec with blockLen := len.toNat } } ≠ some .stream ∧
      8 * len.toNat > 8 * u.br.inputLength - u.br.pos) := by
    have avail := hu.first_le_avail
    rw [length_bytesBits, State.avail] at avail
    omega
  dsimp only [execElement]
  rw [execStoredHdr, if_neg (by simpa using agree), streamState_of_not_stream counted.seq hj, storedBody, if_neg enough]
  dsimp only
  rw [hlen] at copied ⊢
  rw [copied]
  rfl

/-- One stored block that begins at a byte boundary, up to its end (R232, R263). -/
theorem storedBlock {final : Bool} {data : List Byte}
    (h : Decoding s0 job stop .blkHdr d
      (bytesBits ((if final then 0x01 else 0x00) :: (storedLengths data.length ++ data)) ++ l) s)
    (hj : job ≠ .stream) (whole : 8 ∣ stop) (rest : 8 ∣ l.length) (size : data.length ≤ 65535)
    (adm : Admits s0 job (d.out.length + data.length)) :
    ∃ t u n, Turns s t ∧ Turns t (Machine.endBlock u) ∧ Decoding s0 job stop .stored
      { d with bfinal := final, btype := .stored, out := d.out ++ data, blockLen := n } l u := by
  have bits : bytesBits ((if final then 0x01 else 0x00) :: (storedLengths data.length ++ data)) ++ l =
      [final, false, false] ++
        (List.replicate 5 false ++ (bytesBits (storedLengths data.length) ++ (bytesBits data ++ l))) := by
    rw [bytesBits_cons, bytesBits_append]
    cases final <;> simp [byteBits, List.range_succ]
  rw [bits] at h
  obtain ⟨t, header, ht⟩ := h.turn_stored hj
  have pad : (List.replicate 5 false).length = t.br.pad := by
    have ends := ht.ends
    have lengths : (storedLengths data.length).length = 4 := rfl
    rw [List.length_append, List.length_append, List.length_append, length_bytesBits, length_bytesBits, lengths,
      List.length_replicate] at ends
    rw [List.length_replicate, Reader.pad]
    omega
  obtain ⟨u, n, body, hu⟩ := ht.turn_storedBody hj pad size adm
  exact ⟨t, u, n, header, body, hu⟩

/-- A stored stream, block by block (R232, R263, R264). -/
theorem storedStream {blocks : Nat} {data : List Byte}
    (h : Decoding s0 job stop .blkHdr d (bytesBits (Machine.storedStream blocks data)) s) (hj : job ≠ .stream)
    (whole : 8 ∣ stop) (pos : 0 < blocks) (enough : data.length ≤ 65535 * blocks)
    (adm : Admits s0 job (d.out.length + data.length)) : Reaches (Decoded s0 stop (d.out ++ data)) s := by
  induction blocks generalizing data d s with
  | zero => exact absurd pos (Nat.lt_irrefl 0)
  | succ blocks ih =>
    rw [Machine.storedStream] at h
    split at h
    next last =>
      rw [← List.append_nil (bytesBits _)] at h
      obtain ⟨t, u, n, header, body, hu⟩ := storedBlock (final := true) h hj whole (Nat.dvd_zero 8) last adm
      exact .turn header (.turn body (.of_holds (hu.endBlock hj rfl)))
    next more =>
      have size : (data.take 65535).length = 65535 := by rw [List.length_take]; omega
      have parts : d.out ++ data = (d.out ++ data.take 65535) ++ data.drop 65535 := by
        rw [List.append_assoc, List.take_append_drop]
      have adm' : Admits s0 job ((d.out ++ data.take 65535).length + (data.drop 65535).length) := by
        rw [← List.length_append, ← parts, List.length_append]; exact adm
      have lengths : storedLengths 65535 = storedLengths (data.take 65535).length := by rw [size]
      rw [← List.cons_append, bytesBits_append, lengths] at h
      obtain ⟨t, u, n, header, body, hu⟩ := storedBlock (final := false) (data := data.take 65535) h hj whole
        (by rw [length_bytesBits]; exact Nat.dvd_mul_right 8 _) size.le (adm'.mono (by rw [List.length_append]; omega))
      have left : (data.drop 65535).length ≤ 65535 * blocks := by rw [List.length_drop]; omega
      rw [parts]
      exact .turn header (.turn body
        (ih (hu.endBlock_more hj rfl) (by omega) left adm'))

/-! ### Tokens in the fixed codes -/

/-- A literal (R112, R273). -/
theorem turn_lit {b : Nat} (h : Decoding s0 job stop .litLen d (fixedSymbolBits b ++ l) s) (hj : job ≠ .stream)
    (table : d.ll = fixedLitLenTable) (hb : b ≤ 255) (adm : Admits s0 job (d.out.length + 1)) :
    ∃ t, Turns s t ∧ Decoding s0 job stop .litLen { d with out := d.out ++ [BitVec.ofNat 8 b] } l t := by
  rw [← List.append_nil (fixedSymbolBits b)] at h
  have none : litLenExtra b = 0 := if_pos (by omega)
  obtain ⟨u, fetched, hu⟩ := h.fetch_litLen hj table (by omega) none.symm
  have decoded : decode { format := .litLen, word := b + 2 ^ 9 * lsbValue [] } = .ok (.lit (BitVec.ofNat 8 b)) := by
    exact decodeLitLen_literal hb
  obtain ⟨v, emitted, hv⟩ := hu.emit (BitVec.ofNat 8 b) adm
  refine ⟨v, .of_fetched h.busy fetched decoded ?_, hv⟩
  dsimp only [execElement]
  rw [execLit, emitted]
  dsimp only [Except.map, conclude]
  rw [goto_of_decode hv.seq, ← hv.seq]

/-- The end of the final block (R112, R273). -/
theorem turn_eob (h : Decoding s0 job stop .litLen d (fixedSymbolBits 256) s) (hj : job ≠ .stream)
    (table : d.ll = fixedLitLenTable) (final : d.bfinal = true) : Reaches (Decoded s0 stop d.out) s := by
  rw [← List.append_nil (fixedSymbolBits 256), ← List.append_nil (fixedSymbolBits 256 ++ [])] at h
  obtain ⟨u, fetched, hu⟩ := h.fetch_litLen hj table (by decide) rfl
  exact .turn (.of_fetched (i := .eob) h.busy fetched rfl rfl) (.of_holds (hu.endBlock hj final))

/-- The length of a match (R105, R112). -/
theorem turn_length {k x n : Nat} (h : Decoding s0 job stop .litLen d (fixedSymbolBits k ++ lsbBits x n ++ l) s)
    (hj : job ≠ .stream) (table : d.ll = fixedLitLenTable) (low : 257 ≤ k) (high : k ≤ 285) (hn : n = litLenExtra k)
    (hx : x < 2 ^ n) :
    ∃ t, Turns s t ∧ Decoding s0 job stop .dist { d with matchLen := lenBase.getD (k - 257) 0 + x } l t := by
  obtain ⟨u, fetched, hu⟩ := h.fetch_litLen hj table (by omega) ((length_lsbBits x n).trans hn)
  rw [lsbValue_lsbBits hx] at fetched
  obtain ⟨i, decoded, means⟩ := decodeLitLen_length low high (hn ▸ hx)
  refine ⟨_, .of_fetched h.busy fetched decoded (means u), ?_⟩
  rw [takeLength_of_decode hu.seq]
  exact hu.update (fun d => { d with matchLen := lenBase.getD (k - 257) 0 + x }) .dist (List.prefix_refl _)

/-- The distance of a match, and its copy (R106, R113, R276). -/
theorem turn_distance {k x n : Nat} (h : Decoding s0 job stop .dist d (msbBits k 5 ++ lsbBits x n ++ l) s)
    (table : d.d = fixedDistTable) (high : k < 30) (hn : n = distSymbolExtra k) (hx : x < 2 ^ n)
    (within : distBase.getD k 0 + x ≤ d.out.length) (adm : Admits s0 job (d.out.length + d.matchLen)) :
    ∃ t, Turns s t ∧ Decoding s0 job stop .litLen
      { d with out := copyBytes (distBase.getD k 0 + x) d.matchLen d.out } l t := by
  obtain ⟨u, fetched, hu⟩ := h.fetch_dist table high ((length_lsbBits x n).trans hn)
  rw [lsbValue_lsbBits hx] at fetched
  obtain ⟨i, decoded, means⟩ := decodeDist_distance high (hn ▸ hx)
  obtain ⟨v, copied, hv⟩ := hu.copyMatch (distBase.getD k 0 + x) adm
  have matchLen : u.dec.matchLen = d.matchLen := (congrArg Dec.matchLen hu.dec :)
  refine ⟨_, .of_fetched h.busy fetched decoded ((means u).trans ?_), hv.update id .litLen (List.prefix_refl _)⟩
  rw [takeDistance, if_neg (by rw [Dec.op, hu.out]; omega), matchLen, copied]
  exact congrArg _ (goto_of_decode hv.seq .litLen)

/-- The tokens of a final block in the fixed codes (R273 to R276). -/
theorem fixedTokens {body : List Token} {data : List Byte}
    (h : Decoding s0 job stop .litLen d (((body ++ [Token.eob]).map Token.fixedBits).flatten) s) (hj : job ≠ .stream)
    (ll : d.ll = fixedLitLenTable) (dist : d.d = fixedDistTable) (final : d.bfinal = true)
    (ranged : ∀ k ∈ body, k.ranged ∧ k ≠ Token.eob) (expands : Token.expand body d.out = some data)
    (adm : Admits s0 job data.length) : Reaches (Decoded s0 stop data) s := by
  induction body generalizing d s with
  | nil =>
    cases expands
    exact turn_eob (by simpa [Token.fixedBits] using h) hj ll final
  | cons k body ih =>
    obtain ⟨⟨range, other⟩, later⟩ := List.forall_mem_cons.mp ranged
    rw [List.cons_append, List.map_cons, List.flatten_cons] at h
    cases k with
    | eob => exact absurd rfl other
    | lit b =>
      rw [Token.expand] at expands
      have grows := Token.length_le_of_expand expands
      rw [List.length_append, List.length_singleton] at grows
      obtain ⟨t, turn, ht⟩ := h.turn_lit hj ll range (adm.mono grows)
      exact .turn turn (ih ht ll dist final later expands)
    | copy lc le lv dc de dv =>
      obtain ⟨low, high, hle, hlv, hdc, hde, hdv⟩ := range
      rw [Token.expand] at expands
      split at expands
      next within =>
        have grows := Token.length_le_of_expand expands
        rw [length_copyBytes] at grows
        rw [Token.fixedBits, List.append_assoc _ (lsbBits dv de), List.append_assoc _ (msbBits dc 5),
          ← List.append_assoc (msbBits dc 5)] at h
        obtain ⟨t, turn, ht⟩ := h.turn_length hj ll low high (hle.trans (if_neg (by omega)).symm) hlv
        obtain ⟨u, turn', hu⟩ := ht.turn_distance dist (by omega) hde hdv within (adm.mono grows)
        exact .turn turn (.turn turn' (ih hu ll dist final later expands))
      next => cases expands

/-- A fixed stream: one final block of tokens (R265, R273). -/
theorem fixedStream {body : List Token} {data : List Byte}
    (h : Decoding s0 job stop .blkHdr d ([true, true, false] ++ ((body ++ [Token.eob]).map Token.fixedBits).flatten) s)
    (hj : job ≠ .stream) (ranged : ∀ k ∈ body, k.ranged ∧ k ≠ Token.eob) (expands : Token.expand body d.out = some data)
    (adm : Admits s0 job data.length) : Reaches (Decoded s0 stop data) s := by
  obtain ⟨t, turn, ht⟩ := h.turn_fixed hj
  exact .turn turn (ht.fixedTokens hj rfl rfl rfl ranged expands adm)

end Decoding

end

/-! ## The two commands (R260, R283, R284) -/

/-- The job that a decoding command begins. -/
def Begins (job : Job) (i : Instr) : Prop := (i = .decBlock ∧ job = .block) ∨ (i = .decAdaptive ∧ job = .adaptive)

/-- The command is done and returns these bytes; the first `n` bytes of the input are consumed (R34, R260). -/
def Returns (i : Instr) (data : List Byte) (n : Nat) (s : State) : Prop :=
  ∃ t, exec i s = .next t ∧ t.dec.out = data ∧ t.bytesConsumed = n ∧
    t = { s with
          br := t.br, inKept := true, dec := t.dec, status := { s.status with done := true, needInput := false }
          result := .bytes data, seq := .idle }

/-- The state in which the job's first turn is taken. -/
def State.begun (job : Job) (s : State) : State :=
  { beginCommand true s with
    br := { s.br with ip := s.cfg.startOffset, acc := 0, acclen := 0, inputLength := s.inMem.length }
    inKept := true, dec := { s.dec with out := [], blocks := [] }, seq := .decode job .blkHdr }

section
variable {s : State} {i : Instr} {job : Job}

theorem Begins.not_stream (h : Begins job i) : job ≠ .stream := by
  rcases h with ⟨-, rfl⟩ | ⟨-, rfl⟩ <;> exact Job.noConfusion

theorem startDecode_of_le (h : s.cfg.startOffset ≤ s.inMem.length) :
    startDecode job (beginCommand true s) = .ok (s.begun job) := by
  unfold startDecode brInit
  rw [if_pos (show (beginCommand true s).cfg.startOffset ≤ (beginCommand true s).inMem.length from h)]
  rfl

theorem startDecode_of_gt (h : s.cfg.startOffset > s.inMem.length) :
    startDecode job (beginCommand true s) = .error (raise .eApi s.cfg.startOffset (beginCommand true s)) := by
  unfold startDecode brInit
  rw [if_neg (show ¬(beginCommand true s).cfg.startOffset ≤ (beginCommand true s).inMem.length from Nat.not_le.mpr h)]
  rfl

theorem exec_of_le (hi : Begins job i) (hf : s.status.fault = none) (h : s.cfg.startOffset ≤ s.inMem.length) :
    exec i s = settle (s.begun job) := by
  rcases hi with ⟨rfl, rfl⟩ | ⟨rfl, rfl⟩
  · dsimp only [exec]; rw [execDecBlock, framed_runs hf, startDecode_of_le h]
  · dsimp only [exec]; rw [execDecAdaptive, framed_runs hf, startDecode_of_le h]

theorem exec_of_gt (hi : Begins job i) (hf : s.status.fault = none) (h : s.cfg.startOffset > s.inMem.length) :
    exec i s = .next (raise .eApi s.cfg.startOffset (beginCommand true s)) := by
  rcases hi with ⟨rfl, rfl⟩ | ⟨rfl, rfl⟩
  · dsimp only [exec]; rw [execDecBlock, framed_runs hf, startDecode_of_gt h]
  · dsimp only [exec]; rw [execDecAdaptive, framed_runs hf, startDecode_of_gt h]

theorem exec_of_reaches {P : State → Prop} (hi : Begins job i) (hf : s.status.fault = none) (hg : s.grain = .command)
    (h : s.cfg.startOffset ≤ s.inMem.length) (reach : Reaches (fun t => t.seq = .idle ∧ P t) (s.begun job)) :
    ∃ t, exec i s = .next t ∧ P t := by
  rw [exec_of_le hi hf h]
  exact settle_of_reaches hg reach

/-- At the end of the input the first bit is missing (R262). -/
theorem turns_of_empty (hj : job ≠ .stream) (h : s.cfg.startOffset = s.inMem.length) :
    Turns (s.begun job) (raise .eTruncated (8 * s.cfg.startOffset) (s.begun job)) := by
  refine ⟨Seq.noConfusion, ?_⟩
  have refill : (s.begun job).br.refill s.inMem 1 1 = (s.begun job).br := by
    simp [State.begun, Reader.refill, h]
  have bit : readBits 1 (s.begun job) = .error (raise .eTruncated (8 * s.cfg.startOffset) (s.begun job)) := by
    unfold readBits
    rw [show (s.begun job).inMem = s.inMem from rfl, refill]
    dsimp only
    rw [if_pos (show (s.begun job).br.acclen < 1 from Nat.one_pos)]
    exact congrArg Except.error (exhausted_of_not_stream (s := s.begun job) rfl hj)
  have fetched : fetchElement (s.begun job) = .error (raise .eTruncated (8 * s.cfg.startOffset) (s.begun job)) := by
    have fetch : fetchElement (s.begun job) =
        fetchFields .blkHdr 1 2 (tryStart ((s.begun job).streamState .blockHeaderStart)) := rfl
    rw [fetch, streamState_of_not_stream rfl hj, tryStart_of_not_stream rfl hj, fetchFields, bit]
  rw [Machine.turn, fetched]

/-- The bits from CFG.startOffset on are to come. -/
theorem begun_decoding {head bs tail : List Byte} {l rest : List Bool} (hs : s.cfg.startOffset = head.length)
    (hm : s.inMem = Memory.ofBytes 0 (head ++ bs ++ tail)) (bits : bytesBits bs = l ++ rest) :
    Decoding (s.begun job) job (8 * head.length + l.length) .blkHdr (s.begun job).dec l (s.begun job) := by
  have length : s.inMem.length = head.length + bs.length + tail.length := by
    rw [hm, Memory.length_ofBytes, List.length_append, List.length_append]
  have pos : (s.begun job).br.pos = 8 * head.length := congrArg (8 * ·) hs
  have size := congrArg List.length bits
  rw [length_bytesBits, List.length_append] at size
  refine ⟨rfl, ⟨rfl, le_rfl, ?_, ?_, Nat.zero_le _, Nat.zero_le _, rfl⟩, ?_, by rw [pos], ?_, List.nil_prefix⟩
  · intro a ha
    change (s.inMem.read a).isSome = true
    change a < s.inMem.length at ha
    rw [hm, Memory.length_ofBytes] at ha
    rw [hm, ← Nat.zero_add a, Memory.read_ofBytes, List.getElem?_eq_getElem ha]
    rfl
  · change s.cfg.startOffset ≤ s.inMem.length
    omega
  · have shows : s.inMem.Shows (8 * head.length) (bytesBits bs) := by
      refine Memory.shows_bytes fun k b hb => ?_
      rw [hm, ← Nat.zero_add (head.length + k), Memory.read_ofBytes, List.append_assoc,
        List.getElem?_append_right (Nat.le_add_right _ _), Nat.add_sub_cancel_left,
        List.getElem?_append_left (List.getElem?_eq_some_iff.mp hb).1, hb]
    rw [bits] at shows
    rw [pos]
    exact (Memory.shows_append.mp shows).1
  · change _ ≤ 8 * s.inMem.length
    omega

/-- A decode that comes to its end has returned the stream's bytes. -/
theorem exec_of_decoded {data : List Byte} {stop n : Nat} (hi : Begins job i) (hf : s.status.fault = none)
    (hg : s.grain = .command) (h : s.cfg.startOffset ≤ s.inMem.length) (hn : (stop + 7) / 8 = n)
    (reach : Reaches (Decoded (s.begun job) stop data) (s.begun job)) :
    Returns i data n s := by
  obtain ⟨t, ht, decoded⟩ := exec_of_reaches hi hf hg h
    (reach.imp fun t ⟨run, ht⟩ => ⟨run, (congrArg State.seq ht.frame :), ht⟩)
  exact ⟨t, ht, decoded.out, by rw [State.bytesConsumed, decoded.pos, hn], decoded.frame⟩

/-- DEC.* on a stored stream (R232, R263). -/
theorem exec_stored {head data tail : List Byte} (hi : Begins job i) (hf : s.status.fault = none)
    (hg : s.grain = .command) (adm : Admits s job data.length) (hs : s.cfg.startOffset = head.length)
    (hm : s.inMem = Memory.ofBytes 0 (head ++ stored data ++ tail)) :
    Returns i data (head.length + (stored data).length) s := by
  have start : s.cfg.startOffset ≤ s.inMem.length := by
    rw [hm, Memory.length_ofBytes, List.length_append, List.length_append]; omega
  have begun := begun_decoding (job := job) hs hm (List.append_nil _).symm
  rw [length_bytesBits] at begun
  refine exec_of_decoded hi hf hg start (by omega) (begun.storedStream hi.not_stream ?_ ?_ ?_ ?_)
  · omega
  · omega
  · omega
  · exact (Nat.zero_add data.length).symm ▸ adm

/-- DEC.* on a fixed stream (R265, R273). -/
theorem exec_fixed {head bs tail data : List Byte} {body : List Token} {pad : Nat} (hi : Begins job i)
    (hf : s.status.fault = none) (hg : s.grain = .command) (adm : Admits s job data.length)
    (hs : s.cfg.startOffset = head.length) (hm : s.inMem = Memory.ofBytes 0 (head ++ bs ++ tail)) (hp : pad < 8)
    (bits : bytesBits bs =
      [true, true, false] ++ ((body ++ [Token.eob]).map Token.fixedBits).flatten ++ List.replicate pad false)
    (ranged : ∀ k ∈ body, k.ranged ∧ k ≠ Token.eob) (expands : Token.expand body [] = some data) :
    Returns i data (head.length + bs.length) s := by
  have start : s.cfg.startOffset ≤ s.inMem.length := by
    rw [hm, Memory.length_ofBytes, List.length_append, List.length_append]; omega
  have size := congrArg List.length bits
  rw [length_bytesBits, List.length_append, List.length_replicate] at size
  exact exec_of_decoded hi hf hg start (by omega)
    ((begun_decoding hs hm bits).fixedStream hi.not_stream ranged expands adm)

end

/-- Settles O52: the decode is followed turn by turn along the stream's bits, block by block and token by token; each
turn takes an element off the bits to come and puts out what it stands for. -/
theorem decodersReturnAStoredStream : Obligations.DecodersReturnAStoredStream := by
  intro s i hi hf hg
  obtain ⟨job, begins, admits⟩ : ∃ job, Begins job i ∧
      ∀ n, (i = .decBlock ∨ ∀ m, s.params.maxOutputBytes = some m → n ≤ m) → Admits s job n := by
    rcases hi with rfl | rfl
    · exact ⟨.block, .inl ⟨rfl, rfl⟩, fun _ _ => .inl rfl⟩
    · exact ⟨.adaptive, .inr ⟨rfl, rfl⟩, fun _ h => .inr (h.resolve_left Instr.noConfusion)⟩
  refine ⟨fun head data tail adm hs hm => exec_stored begins hf hg (admits _ adm) hs hm,
    fun head bs tail data body pad adm hs hm hp bits ranged expands =>
      exec_fixed begins hf hg (admits _ adm) hs hm hp bits ranged expands, fun h => ?_, fun h => ?_⟩
  · have truncated := turns_of_empty (job := job) begins.not_stream h
    obtain ⟨t, ht, rfl⟩ := exec_of_reaches begins hf hg h.le (.turn truncated (.of_holds ⟨rfl, rfl⟩))
    exact .of_exec ht rfl
  · exact .of_exec (exec_of_gt begins hf h) rfl

end Sys2Proof.Machine
end

section
/-! PROOFS. Where the machine stops (R76, R383; U9). An element always has a next state, so a turn and the turns of a
command have one; a command has one too unless it reads the host's input, and such a command stops only where that input
has been withdrawn. -/

namespace Sys2Proof.Machine

/-! ## Turns -/

/-- The outcome is a next state. -/
def Answers (o : Outcome) : Prop := ∃ t, o = .next t

theorem execStoredHdr_answers (len nlen : BitVec 16) (s : State) : Answers (execStoredHdr len nlen s) := by
  unfold execStoredHdr
  split
  · exact ⟨_, rfl⟩
  · exact conclude_next _

theorem execCl16_answers (extra : BitVec 2) (s : State) : Answers (execCl16 extra s) := by
  unfold execCl16
  split
  · exact ⟨_, rfl⟩
  · exact conclude_next _

theorem execTMatch_answers (lc : BitVec 8) (le lv dc de dv : Slot) (s : State) :
    Answers (execTMatch lc le lv dc de dv s) := by
  unfold execTMatch
  dsimp only
  split
  · exact ⟨_, rfl⟩
  · exact conclude_next _

theorem execDte_answers (cl sym : BitVec 16) (s : State) : Answers (execDte cl sym s) := by
  unfold execDte
  dsimp only
  split <;> exact ⟨_, rfl⟩

theorem execElement_answers (i : Instr) (s : State) : Answers (execElement i s) := by
  cases i with
  | storedHdr len nlen => exact execStoredHdr_answers len nlen s
  | cl16 x => exact execCl16_answers x s
  | tMatch lc le lv dc de dv => exact execTMatch_answers lc le lv dc de dv s
  | dte cl sym => exact execDte_answers cl sym s
  | dynHdr | lit | tLit | tEob => exact conclude_next _
  | dist0 | dist1 | dist2 | dist3 | dist4 | dist5 | dist6 | dist7 | dist8 | dist9 | dist10 | dist11 | dist12 | dist13
  | dist14 | dist15 | dist16 | dist17 | dist18 | dist19 | dist20 | dist21 | dist22 | dist23 | dist24 | dist25 | dist26
  | dist27 | dist28 | dist29 => exact conclude_next _
  | cl0 | cl1 | cl2 | cl3 | cl4 | cl5 | cl6 | cl7 | cl8 | cl9 | cl10 | cl11 | cl12 | cl13 | cl14 | cl15 | cl17 | cl18 =>
    exact conclude_next _
  | _ => exact ⟨_, rfl⟩

theorem turn_answers (s : State) : Answers (turn s) := by
  unfold turn
  split
  · exact ⟨_, rfl⟩
  split
  · exact execElement_answers _ _
  · exact ⟨_, rfl⟩

theorem runTurns_answers (fuel : Nat) (s : State) : Answers (runTurns fuel s) := by
  induction fuel generalizing s with
  | zero => exact ⟨s, rfl⟩
  | succ fuel ih =>
    obtain ⟨t, ht⟩ := turn_answers s
    rw [runTurns, ht]
    split
    · exact ⟨s, rfl⟩
    · exact ih t

theorem settle_answers (s : State) : Answers (settle s) := by
  unfold settle
  split
  · exact runTurns_answers _ s
  · exact ⟨s, rfl⟩

/-! ## Commands -/

theorem framed_answers {c : Bool} {s : State} {body : State → Outcome} (h : Answers (body (beginCommand c s))) :
    Answers (framed c s body) := by
  unfold framed
  split
  · exact ⟨_, rfl⟩
  · exact h

theorem execBwFinish_answers (s : State) : Answers (execBwFinish s) := by
  refine framed_answers ?_
  split <;> exact ⟨_, rfl⟩

theorem execBrRestore_answers (s : State) : Answers (execBrRestore s) := by
  refine framed_answers ?_
  split <;> exact ⟨_, rfl⟩

theorem execHtbBuild_answers (a : TableArg) (s : State) : Answers (execHtbBuild a s) := by
  refine framed_answers ?_
  split
  · exact ⟨_, rfl⟩
  split
  · split <;> exact ⟨_, rfl⟩
  · exact ⟨_, rfl⟩

theorem execCcbLengths_answers (a : TableArg) (limit : Nat) (s : State) : Answers (execCcbLengths a limit s) := by
  refine framed_answers ?_
  split
  · split
    · exact ⟨_, rfl⟩
    split
    · exact ⟨_, rfl⟩
    · cases a <;> exact ⟨_, rfl⟩
  · exact ⟨_, rfl⟩

theorem execCcbCodes_answers (a : TableArg) (s : State) : Answers (execCcbCodes a s) := by
  refine framed_answers ?_
  split
  · exact ⟨_, rfl⟩
  split
  · split
    · exact ⟨_, rfl⟩
    · cases a <;> exact ⟨_, rfl⟩
  · exact ⟨_, rfl⟩

theorem execCcbRle_answers (src : List Nat) (s : State) : Answers (execCcbRle src s) := by
  refine framed_answers ?_
  split <;> exact ⟨_, rfl⟩

theorem execRdConsumed_answers (s : State) : Answers (execRdConsumed s) := by
  unfold execRdConsumed
  split <;> exact ⟨_, rfl⟩

theorem illegalCommand_answers (e : DecodeError) (s : State) : Answers (illegalCommand e s) :=
  framed_answers ⟨_, rfl⟩

/-- The commands that go on reading input supplied before (R147, R149, R302). -/
def readsInput : Instr → Bool
  | .brRead _ | .brDecode _ | .sdecCall .. => true
  | _ => false

theorem exec_command_answers {i : Instr} (s : State) (cmd : (encode i).format = .cmd) (h : readsInput i = false) :
    Answers (exec i s) := by
  cases i with
  | brRead | brDecode | sdecCall => cases h
  | reset => exact ⟨_, rfl⟩
  | bwInit | brAlign | brSave | lzmRun | sdecInit =>
    dsimp only [exec]
    refine framed_answers ?_
    exact ⟨_, rfl⟩
  | bwWrite | brInit | encStored =>
    dsimp only [exec]
    refine framed_answers ?_
    exact conclude_next _
  | bwFinish => exact execBwFinish_answers s
  | brRestore => exact execBrRestore_answers s
  | htbBuild a => exact execHtbBuild_answers a s
  | ccbLengths a l => exact execCcbLengths_answers a l s
  | ccbCodes a => exact execCcbCodes_answers a s
  | ccbRle q => exact execCcbRle_answers q s
  | encFixed | encDynamic | decBlock | decAdaptive =>
    dsimp only [exec]
    refine framed_answers ?_
    split
    · exact ⟨_, rfl⟩
    · exact settle_answers _
  | rdConsumed => exact execRdConsumed_answers s
  | _ => cases cmd

/-- Every instruction that is none of them has a next state. -/
theorem exec_answers {i : Instr} (s : State) (h : readsInput i = false) : Answers (exec i s) := by
  by_cases cmd : (encode i).format = .cmd
  · exact exec_command_answers s cmd h
  · rw [exec_eq_execElement i s cmd]
    exact execElement_answers i s

/-! ## Commands that read input -/

/-- The input BR has been given still stands in IN (R76). -/
def State.InputKept (s : State) : Prop := s.inKept = true ∧ s.br.inputLength ≤ s.inMem.length

/-- A next state, or the stop where the input has been withdrawn. -/
def StopsIfWithdrawn (s : State) (o : Outcome) : Prop := Answers o ∨ o = .fault .inputWithdrawn ∧ ¬s.InputKept

theorem withInput_stopsIfWithdrawn {s : State} {body : State → Outcome} (h : Answers (body s)) :
    StopsIfWithdrawn s (withInput s body) := by
  by_cases kept : s.InputKept
  · exact .inl (withInput_runs kept.1 kept.2 ▸ h)
  · exact .inr ⟨withInput_stops kept, kept⟩

theorem framed_stopsIfWithdrawn {c : Bool} {s : State} {body : State → Outcome}
    (h : StopsIfWithdrawn (beginCommand c s) (body (beginCommand c s))) : StopsIfWithdrawn s (framed c s body) := by
  unfold framed
  split
  · exact .inl ⟨_, rfl⟩
  · exact h

theorem execBrRead_stopsIfWithdrawn (n : Nat) (s : State) : StopsIfWithdrawn s (execBrRead n s) := by
  refine framed_stopsIfWithdrawn ?_
  split
  · exact .inl ⟨_, rfl⟩
  · refine withInput_stopsIfWithdrawn ?_
    split <;> exact ⟨_, rfl⟩

theorem execBrDecode_stopsIfWithdrawn (t : DecodeTable) (s : State) : StopsIfWithdrawn s (execBrDecode t s) := by
  refine framed_stopsIfWithdrawn ?_
  split
  · exact withInput_stopsIfWithdrawn (settle_answers _)
  · exact .inl ⟨_, rfl⟩

theorem streamCall_stopsIfWithdrawn (chunk : Option (List Byte)) (startOffset : Option Nat) (s : State) :
    StopsIfWithdrawn s (streamCall chunk startOffset s) := by
  unfold streamCall
  split
  · exact .inl ⟨_, rfl⟩
  · refine withInput_stopsIfWithdrawn ?_
    split
    · exact ⟨_, rfl⟩
    split
    · exact ⟨_, rfl⟩
    · exact settle_answers _

theorem exec_stopsIfWithdrawn (i : Instr) (s : State) : StopsIfWithdrawn s (exec i s) := by
  cases h : readsInput i with
  | false => exact .inl (exec_answers s h)
  | true =>
    cases i with
    | brRead n => exact execBrRead_stopsIfWithdrawn n s
    | brDecode t => exact execBrDecode_stopsIfWithdrawn t s
    | sdecCall c f => exact framed_stopsIfWithdrawn (streamCall_stopsIfWithdrawn c f _)
    | _ => cases h

/-- The words of the commands that read input (R130). Arms 6, 7 and 22 of the decoder are theirs; arm 24 is the words
that are no command. -/
theorem decodeCmd_readsInput {w : Nat} {o : CmdOps} {i : Instr} (h : decodeCmd w o = .ok i) (hi : readsInput i = true) :
    w = 0x0009 ∨ w = 0x000A ∨ w = 0x0039 := by
  unfold decodeCmd at h
  split at h
  case h_6 | h_7 | h_22 => decide
  case h_24 =>
    split at h
    · cases h
    · split at h <;> cases h
  all_goals cases h; cases hi

theorem runCommand_answers_or_stops (it : Issue) (s : State) :
    Answers (runCommand it s) ∨ (runCommand it s = .fault .inputWithdrawn ∧
      (it.word = 0x0009 ∨ it.word = 0x000A ∨ it.word = 0x0039) ∧ ¬s.InputKept) := by
  unfold runCommand
  split
  next i hi =>
    refine (exec_stopsIfWithdrawn i s).imp_right fun ⟨stops, withdrawn⟩ => ⟨stops, ?_, withdrawn⟩
    have reads : readsInput i = true := by
      by_contra h
      obtain ⟨t, ht⟩ := exec_answers s (Bool.eq_false_iff.mpr h)
      cases ht.symm.trans stops
    simpa [← BitVec.toNat_inj] using decodeCmd_readsInput hi reads
  next e _ => exact .inl (illegalCommand_answers e s)

theorem accept_inputKept (it : Issue) (rest : List Issue) (s : State) : (accept it rest s).InputKept ↔
    (accept it rest s).inKept = true ∧ s.br.inputLength ≤ (accept it rest s).inMem.length := by
  have reader : (accept it rest s).br = s.br := by
    unfold accept
    dsimp only
    split <;> rfl
  rw [State.InputKept, reader]

/-- Settles O4: a turn always has a next state, and a command stops only at the check of its input. -/
theorem stepStopsOnlyOnWithdrawnInput : Obligations.StepStopsOnlyOnWithdrawnInput := by
  intro s
  by_cases idle : s.seq = .idle
  · cases hp : s.port with
    | nil => exact .inl ⟨s, step_idle idle hp⟩
    | cons it rest =>
      rw [step_command idle hp]
      exact (runCommand_answers_or_stops it _).imp_right fun ⟨stops, word, withdrawn⟩ =>
        ⟨stops, idle, it, rest, rfl, word, (accept_inputKept it rest s).not.mp withdrawn⟩
  · rw [step_busy idle, runElement_eq_turn]
    exact .inl (turn_answers s)

end Sys2Proof.Machine
end

section
/-! PROOFS. BW.FINISH (R65, R144): what padding the partial byte does to OUT, and what is read back from it. -/

namespace Sys2Proof.Machine

/-! ## Bytes read from OUT -/

theorem length_outBytes (ctr : Nat) (m : Memory) (a n : Nat) : (outBytes ctr m a n).length = n := by
  induction n generalizing a with
  | zero => rfl
  | succ n ih => rw [outBytes, List.length_cons, ih]

/-- A byte that has been filled is read as it is (R65). -/
theorem getElem?_outBytes (ctr : Nat) {m : Memory} {a k n : Nat} {b : Byte} (hk : k < n)
    (h : m.read (a + k) = some b) : (outBytes ctr m a n)[k]? = some b := by
  induction n generalizing a k with
  | zero => omega
  | succ n ih =>
    rw [outBytes]
    cases k with
    | zero => rw [Nat.add_zero] at h; simp [h]
    | succ k =>
      rw [List.getElem?_cons_succ]
      exact ih (by omega) (by rwa [show a + 1 + k = a + (k + 1) by omega])

/-! ## The padded byte -/

theorem Writer.flush_whole {w : Writer} (h : w.bitIndex = 0) : w.flush = w := by simp [Writer.flush, h]

theorem Writer.flush_partial {w : Writer} (h : w.bitIndex ≠ 0) :
    w.flush = { w with
                out := w.out.write w.byteIndex (rev8 (w.current <<< (8 - w.bitIndex))), byteIndex := w.byteIndex + 1
                bitIndex := 0, current := 0 } := by
  rw [Writer.flush, if_pos (Nat.pos_of_ne_zero h)]

theorem Writer.flush_bitIndex (w : Writer) : w.flush.bitIndex = 0 := by
  by_cases h : w.bitIndex = 0
  · rw [flush_whole h, h]
  · rw [flush_partial h]

theorem Writer.flush_byteIndex (w : Writer) :
    w.flush.byteIndex = w.byteIndex + (if w.bitIndex = 0 then 0 else 1) := by
  by_cases h : w.bitIndex = 0
  · rw [flush_whole h, if_pos h, Nat.add_zero]
  · rw [flush_partial h, if_neg h]

/-- Padding writes the byte at the cursor only. -/
theorem Writer.flush_read_other (w : Writer) {a : Nat} (h : a < w.byteIndex ∨ w.flush.byteIndex ≤ a) :
    w.flush.out.read a = w.out.read a := by
  by_cases whole : w.bitIndex = 0
  · rw [flush_whole whole]
  · rw [flush_byteIndex, if_neg whole] at h
    rw [flush_partial whole]
    exact Memory.read_write_other _ _ (by omega)

theorem Writer.flush_read_last {w : Writer} (h : w.bitIndex ≠ 0) :
    w.flush.out.read w.byteIndex = some (rev8 (w.current <<< (8 - w.bitIndex))) := by
  rw [flush_partial h]
  exact Memory.read_write_same _ _ _

theorem getElem_msbBits (v n i : Nat) (h : i < (msbBits v n).length) : (msbBits v n)[i] = v.testBit (n - 1 - i) := by
  induction n generalizing i with
  | zero => simp [msbBits] at h
  | succ n ih =>
    cases i with
    | zero => simp [msbBits]
    | succ i =>
      simp only [msbBits, List.getElem_cons_succ]
      rw [ih]
      congr 1
      omega

theorem getLsbD_rev8 (b : Byte) {i : Nat} (h : i < 8) : (rev8 b).getLsbD i = b.getLsbD (7 - i) := by
  rw [rev8, BitVec.getLsbD_ofNat, revBits_testBit 8 _ i h, BitVec.testBit_toNat]
  simp [h]

/-- The bits of the partial byte stand first, then the missing ones, which are 0 (R144). -/
theorem byteBits_padded (b : Byte) {n : Nat} (h : n ≤ 8) :
    byteBits (rev8 (b <<< (8 - n))) = msbBits b.toNat n ++ List.replicate (8 - n) false := by
  refine List.ext_getElem (by simp [length_byteBits, length_msbBits]; omega) fun i hi _ => ?_
  rw [length_byteBits] at hi
  have bit : (byteBits (rev8 (b <<< (8 - n))))[i] = (b <<< (8 - n)).getLsbD (7 - i) := by
    simp only [byteBits, List.getElem_map, List.getElem_range]
    exact getLsbD_rev8 _ hi
  refine bit.trans ?_
  rw [BitVec.getLsbD_shiftLeft, List.getElem_append]
  split
  next low =>
    rw [length_msbBits] at low
    rw [getElem_msbBits, BitVec.testBit_toNat, show 7 - i - (8 - n) = n - 1 - i by omega]
    simp only [show ¬(7 - i < 8 - n) by omega, show 7 - i < 8 by omega, decide_true, decide_false, Bool.not_false,
      Bool.true_and]
  next high =>
    rw [length_msbBits] at high
    simp only [List.getElem_replicate, show 7 - i < 8 - n by omega, decide_true, Bool.not_true, Bool.and_false,
      Bool.false_and]

/-! ## The command -/

theorem exec_bwFinish_open {s : State} (hf : s.status.fault = none) (ho : s.bw.isOpen = true) :
    exec .bwFinish s = .next
      { s.ended (.bytes (outBytes s.freeCtr s.bw.flush.out 0 s.bw.flush.byteIndex)) with
        bw := { s.bw.flush with isOpen := false }, freeCtr := s.freeCtr + 1 } := by
  have finish : bwFinish (beginCommand false s) =
      .ok (outBytes s.freeCtr s.bw.flush.out 0 s.bw.flush.byteIndex,
        { beginCommand false s with bw := { s.bw.flush with isOpen := false }, freeCtr := s.freeCtr + 1 }) := if_pos ho
  rw [exec, execBwFinish, framed_runs hf, finish]
  rfl

theorem exec_bwFinish_closed {s : State} (hf : s.status.fault = none) (hc : s.bw.isOpen = false) :
    exec .bwFinish s = .next (raise .eApi 0 (beginCommand false s)) := by
  have finish : bwFinish (beginCommand false s) = .error (raise .eApi 0 (beginCommand false s)) :=
    if_neg (ne_true_of_eq_false hc)
  rw [exec, execBwFinish, framed_runs hf, finish]

/-- Settles O19: the bytes returned are those of OUT after the partial byte has been padded. -/
theorem bwFinishReturnsTheBytes : Obligations.BwFinishReturnsTheBytes := by
  refine ⟨rfl, fun s hf => ⟨fun ho => ?_, fun hc => .of_exec (exec_bwFinish_closed hf hc) rfl⟩⟩
  refine ⟨_, _, exec_bwFinish_open hf ho, rfl, rfl, s.bw.flush_bitIndex, length_outBytes .., s.bw.flush_byteIndex,
    fun a => s.bw.flush_read_other, fun a b below filled => ?_, fun bounded started => ?_⟩
  · have last := s.bw.flush_byteIndex
    exact getElem?_outBytes _ (by omega) (by rw [Nat.zero_add, s.bw.flush_read_other (.inl below), filled])
  · have last := s.bw.flush_byteIndex
    rw [if_neg started] at last
    have written := Writer.flush_read_last started
    exact ⟨_, getElem?_outBytes _ (by omega) (by rw [Nat.zero_add, written]), written,
      byteBits_padded _ (Nat.le_succ_of_le bounded.1)⟩

end Sys2Proof.Machine
end

section
/-! PROOFS. Decoding and encoding (R91 to R97, R120 to R131), format by format: a word is a symbol and above it the extra
bits, and both directions take it apart there. -/

namespace Sys2Proof

/-! ## Decoding an encoding -/

/-- An extra field of its own width is read back. -/
theorem withExtra_toNat {w : Nat} (f : BitVec w → Instr) (x : BitVec w) : withExtra w f x.toNat = .ok (f x) := by
  rw [withExtra, if_pos x.isLt, BitVec.ofNat_toNat, BitVec.setWidth_eq]

theorem bare_zero (i : Instr) : bare i 0 = .ok i := rfl

theorem symbol_mod (m k x : Nat) (h : k < m) : (k + m * x) % m = k := by
  rw [Nat.add_mul_mod_self_left, Nat.mod_eq_of_lt h]

theorem symbol_div (m k x : Nat) (h : k < m) : (k + m * x) / m = x := by
  rw [Nat.add_mul_div_left _ _ (Nat.zero_lt_of_lt h), Nat.div_eq_of_lt h, Nat.zero_add]

theorem decodeClSym_encode {i : Instr} (h : (encode i).format = .clSym) : decodeClSym (encode i).word = .ok i := by
  cases i <;> cases h
  case cl16 x | cl17 x | cl18 x =>
    rw [decodeClSym, encode, symbol_mod 32 _ _ (by decide), symbol_div 32 _ _ (by decide)]
    exact withExtra_toNat _ x
  all_goals rfl

theorem decodeDist_encode {i : Instr} (h : (encode i).format = .dist) : decodeDist (encode i).word = .ok i := by
  cases i <;> cases h
  case dist0 | dist1 | dist2 | dist3 | distInvalid30 | distInvalid31 => rfl
  all_goals
    rw [decodeDist, encode, symbol_mod 32 _ _ (by decide), symbol_div 32 _ _ (by decide)]
    exact withExtra_toNat _ _

theorem decodeLitLen_encode {i : Instr} (h : (encode i).format = .litLen) : decodeLitLen (encode i).word = .ok i := by
  cases i <;> cases h
  case lit b =>
    have small := b.isLt
    rw [decodeLitLen, encode, if_pos (by simp only; omega), Nat.div_eq_of_lt (by simp only; omega), bare_zero,
      BitVec.ofNat_toNat, BitVec.setWidth_eq]
  case eob | len257 | len258 | len259 | len260 | len261 | len262 | len263 | len264 | len285 | llInvalid286 | llInvalid287 =>
    rfl
  all_goals
    rw [decodeLitLen, encode, symbol_mod 512 _ _ (by decide), symbol_div 512 _ _ (by decide)]
    exact withExtra_toNat _ _

theorem decodeBlkHdr_encode {i : Instr} (h : (encode i).format = .blkHdr) : decodeBlkHdr (encode i).word = .ok i := by
  cases i <;> cases h
  all_goals
    rename_i bfinal
    cases bfinal <;> rfl

/-- The field of `n` bits that stands lowest. -/
theorem ofNat_low {n : Nat} (x : BitVec n) (above : Nat) : BitVec.ofNat n (x.toNat + 2 ^ n * above) = x := by
  apply BitVec.eq_of_toNat_eq
  rw [BitVec.toNat_ofNat, symbol_mod _ _ _ x.isLt]

theorem decodeStored_encode (len nlen : BitVec 16) :
    decodeStored (encode (.storedHdr len nlen)).word = .ok (.storedHdr len nlen) := by
  have fits : (encode (.storedHdr len nlen)).word < 2 ^ 32 := Laws.WordFits.storedHdr len nlen
  rw [decodeStored, if_pos fits, encode, ofNat_low, symbol_div _ _ _ len.isLt,
    BitVec.ofNat_toNat, BitVec.setWidth_eq]

theorem decodeDte_encode (cl sym : BitVec 16) : decodeDte (encode (.dte cl sym)).word = .ok (.dte cl sym) := by
  have fits : (encode (.dte cl sym)).word < 2 ^ 32 := Laws.WordFits.dte cl sym
  rw [decodeDte, if_pos fits, encode, ofNat_low, symbol_div _ _ _ sym.isLt,
    BitVec.ofNat_toNat, BitVec.setWidth_eq]

theorem decodeDynHdr_encode (hlit hdist : BitVec 5) (hclen : BitVec 4) :
    decodeDynHdr (encode (.dynHdr hlit hdist hclen)).word = .ok (.dynHdr hlit hdist hclen) := by
  have fits : (encode (.dynHdr hlit hdist hclen)).word < 2 ^ 14 := Laws.WordFits.dynHdr hlit hdist hclen
  have low : (encode (.dynHdr hlit hdist hclen)).word =
      hlit.toNat + 2 ^ 5 * (hdist.toNat + 2 ^ 5 * hclen.toNat) := by simp only [encode]; ring
  have high : (hlit.toNat + 2 ^ 5 * (hdist.toNat + 2 ^ 5 * hclen.toNat)) / 2 ^ 10 = hclen.toNat := by
    rw [show 2 ^ 10 = 2 ^ 5 * 2 ^ 5 from rfl, ← Nat.div_div_eq_div_mul, symbol_div _ _ _ hlit.isLt,
      symbol_div _ _ _ hdist.isLt]
  rw [decodeDynHdr, if_pos fits, low, high, symbol_div _ _ _ hlit.isLt, ofNat_low,
    ofNat_low, BitVec.ofNat_toNat, BitVec.setWidth_eq]

/-! ### Tokens (R120 to R123) -/

theorem slotOf_slotsWord (l : List Slot) (k : Nat) : slotOf (slotsWord (l.map BitVec.toNat)) k = l.getD k 0 := by
  induction l generalizing k with
  | nil => simp [slotsWord, slotOf]
  | cons x l ih =>
    rw [List.map_cons, slotsWord]
    cases k with
    | zero => rw [slotOf, Nat.mul_zero, Nat.pow_zero, Nat.div_one, ofNat_low]; rfl
    | succ k =>
      rw [List.getD_cons_succ, ← ih k, slotOf, slotOf, show 16 * (k + 1) = 16 + 16 * k by omega, Nat.pow_add,
        ← Nat.div_div_eq_div_mul, symbol_div _ _ _ x.isLt]

theorem slotsWord_lt (l : List Slot) : slotsWord (l.map BitVec.toNat) < 2 ^ (16 * l.length) := by
  induction l with
  | nil => decide
  | cons x l ih =>
    have small := x.isLt
    have step : 2 ^ (16 * (l.length + 1)) = 2 ^ 16 * 2 ^ (16 * l.length) := by rw [← Nat.pow_add]; congr 1; omega
    rw [List.map_cons, slotsWord, List.length_cons, step]
    omega

/-- Six slots that begin with a length symbol are a match. -/
theorem decodeToken_slots {a : Slot} (b c d e f : Slot) (low : 257 ≤ a.toNat) (high : a.toNat < 512) :
    decodeToken (slotsWord ([a, b, c, d, e, f].map BitVec.toNat)) =
      .ok (.tMatch (BitVec.ofNat 8 a.toNat) b c d e f) := by
  have slot0 : slotsWord ([a, b, c, d, e, f].map BitVec.toNat) % 2 ^ 16 = a.toNat := symbol_mod _ _ _ a.isLt
  have fits : slotsWord ([a, b, c, d, e, f].map BitVec.toNat) < 2 ^ 96 := slotsWord_lt _
  rw [decodeToken]
  simp only [slot0]
  rw [if_neg (by omega), if_neg (by omega), if_pos high, if_pos fits]
  simp only [slotOf_slotsWord]
  rfl

theorem decodeToken_encode {i : Instr} (h : (encode i).format = .token) (wf : i.wellFormed = true) :
    decodeToken (encode i).word = .ok i := by
  cases i <;> cases h
  case tLit b =>
    have small := b.isLt
    have slot0 : b.toNat % 2 ^ 16 = b.toNat := Nat.mod_eq_of_lt (by omega)
    simp only [decodeToken, encode, slot0]
    rw [if_pos small, Nat.div_eq_of_lt (by omega), bare_zero, BitVec.ofNat_toNat, BitVec.setWidth_eq]
  case tEob => rfl
  case tMatch lc le lv dc de dv =>
    have small := lc.isLt
    have pos : lc.toNat ≠ 0 := fun e => (of_decide_eq_true wf) (BitVec.eq_of_toNat_eq e)
    have slot0 : (BitVec.ofNat 16 (256 + lc.toNat)).toNat = 256 + lc.toNat := by rw [BitVec.toNat_ofNat]; omega
    have code : BitVec.ofNat 8 (256 + lc.toNat) = lc := by
      apply BitVec.eq_of_toNat_eq
      rw [BitVec.toNat_ofNat]; omega
    have decoded := decodeToken_slots (a := BitVec.ofNat 16 (256 + lc.toNat)) le lv dc de dv (by omega) (by omega)
    simp only [List.map_cons, List.map_nil, slot0, code] at decoded
    exact decoded

/-- Settles O13: format by format, the decoder finds the symbol and the fields the encoder has placed. -/
theorem decodingInvertsEncoding : Obligations.DecodingInvertsEncoding := by
  intro i wf
  cases format : (encode i).format with
  | cmd => cases i <;> cases format <;> rfl
  | blkHdr => rw [decode, format]; exact decodeBlkHdr_encode format
  | clSym => rw [decode, format]; exact decodeClSym_encode format
  | litLen => rw [decode, format]; exact decodeLitLen_encode format
  | dist => rw [decode, format]; exact decodeDist_encode format
  | token => rw [decode, format]; exact decodeToken_encode format wf
  | stored => cases i <;> cases format; exact decodeStored_encode _ _
  | dynHdr => cases i <;> cases format; exact decodeDynHdr_encode _ _ _
  | dte => cases i <;> cases format; exact decodeDte_encode _ _

/-! ## Encoding what was decoded -/

/-- An element without extra bits: the decoded word was its symbol alone. -/
theorem bare_word {j i : Instr} {m x : Nat} (h : bare j x = .ok i) : (encode i).word = (encode j).word + m * x := by
  unfold bare at h
  split at h
  next none => cases h; rw [none, Nat.mul_zero, Nat.add_zero]
  next => cases h

/-- An element with an extra field: the decoded word was its symbol and, above it, the field. -/
theorem withExtra_word {i : Instr} {w k m x : Nat} {f : BitVec w → Instr} (h : withExtra w f x = .ok i)
    (hf : ∀ b, (encode (f b)).word = k + m * b.toNat) : (encode i).word = k + m * x := by
  unfold withExtra at h
  split at h
  next small => cases h; rw [hf, BitVec.toNat_ofNat, Nat.mod_eq_of_lt small]
  next => cases h

theorem encode_decodeClSym {w : Nat} {i : Instr} (h : decodeClSym w = .ok i) : (encode i).word = w := by
  rw [← Nat.mod_add_div w 32]
  unfold decodeClSym at h
  dsimp only at h
  split at h
  case h_17 e | h_18 e | h_19 e => rw [e]; exact withExtra_word h fun _ => rfl
  case h_20 => cases h
  all_goals
    rename_i e
    rw [e]
    exact bare_word h

theorem encode_decodeDist {w : Nat} {i : Instr} (h : decodeDist w = .ok i) : (encode i).word = w := by
  rw [← Nat.mod_add_div w 32]
  unfold decodeDist at h
  dsimp only at h
  split at h
  case h_1 e | h_2 e | h_3 e | h_4 e | h_31 e | h_32 e => rw [e]; exact bare_word h
  case h_33 => cases h
  all_goals
    rename_i e
    rw [e]
    exact withExtra_word h fun _ => rfl

theorem encode_decodeLitLen {w : Nat} {i : Instr} (h : decodeLitLen w = .ok i) : (encode i).word = w := by
  rw [← Nat.mod_add_div w 512]
  unfold decodeLitLen at h
  dsimp only at h
  split at h
  next literal =>
    rw [bare_word (m := 512) h]
    simp only [encode, BitVec.toNat_ofNat]
    omega
  next =>
    split at h
    case h_1 e | h_2 e | h_3 e | h_4 e | h_5 e | h_6 e | h_7 e | h_8 e | h_9 e | h_30 e | h_31 e | h_32 e =>
      rw [e]; exact bare_word h
    case h_33 => cases h
    all_goals
      rename_i e
      rw [e]
      exact withExtra_word h fun _ => rfl

theorem encode_decodeBlkHdr {w : Nat} {i : Instr} (h : decodeBlkHdr w = .ok i) : (encode i).word = w := by
  rw [← Nat.mod_add_div w 2]
  have bit : (decide (w % 2 = 1)).toNat = w % 2 := by
    rcases Nat.mod_two_eq_zero_or_one w with e | e <;> rw [e] <;> rfl
  unfold decodeBlkHdr at h
  dsimp only at h
  split at h
  case h_5 => cases h
  all_goals
    rename_i e
    cases h
    rw [e, encode, bit]

theorem encode_decodeToken {w : Nat} {i : Instr} (h : decodeToken w = .ok i) : (encode i).word = w := by
  unfold decodeToken at h
  dsimp only at h
  split at h
  next literal =>
    rw [← Nat.mod_add_div w (2 ^ 16), bare_word (m := 2 ^ 16) h]
    simp only [encode, BitVec.toNat_ofNat]
    omega
  next =>
    split at h
    next e => rw [← Nat.mod_add_div w (2 ^ 16), e]; exact bare_word h
    next =>
      split at h
      next =>
        split at h
        next =>
          cases h
          simp only [encode, slotsWord, slotOf, BitVec.toNat_ofNat]
          omega
        next => cases h
      next => cases h

/-- Settles O14: what decodes has the symbol and the fields of the instruction, and nothing above them. -/
theorem encodingInvertsDecoding : Obligations.EncodingInvertsDecoding := by
  intro r i h
  refine ⟨Machine.decode_format h, ?_⟩
  obtain ⟨format, w, ops⟩ := r
  cases format
  case cmd =>
    change decodeCmd w ops = .ok i at h
    unfold decodeCmd at h
    split at h
    case h_24 =>
      split at h
      next => cases h
      next => split at h <;> cases h
    all_goals cases h; rfl
  case blkHdr => exact encode_decodeBlkHdr h
  case clSym => exact encode_decodeClSym h
  case litLen => exact encode_decodeLitLen h
  case dist => exact encode_decodeDist h
  case token => exact encode_decodeToken h
  case stored | dynHdr | dte =>
    simp only [decode, decodeStored, decodeDynHdr, decodeDte] at h
    split at h
    next => cases h; simp only [encode, BitVec.toNat_ofNat]; omega
    next => cases h

/-- Settles O15: each word is evaluated. -/
theorem wordsOfTheTablesDecode : Obligations.WordsOfTheTablesDecode := by
  unfold Obligations.WordsOfTheTablesDecode
  decide

end Sys2Proof
end

section
/-! PROOFS. Single elements and words: a word that is no command (R135, U14), the decode-table entry (R149), the
code-length, length and distance symbols (R96, R105, R106). -/

namespace Sys2Proof.Machine

/-! ## Words that are no command (R135, U14) -/

theorem accept_status (it : Issue) (rest : List Issue) (s : State) : (accept it rest s).status = s.status := by
  unfold accept; cases it.input <;> rfl

theorem accept_seq (it : Issue) (rest : List Issue) (s : State) : (accept it rest s).seq = s.seq := by
  unfold accept; cases it.input <;> rfl

/-- A bad selector of ENC or DEC is what is reported (R131). -/
theorem illegalInfo_of_selector {w : Nat} {o : CmdOps} {e : DecodeError} (h : decodeCmd w o = .error e) (hw : w < 2 ^ 16)
    (op : w % 256 = 0x28 ∨ w % 256 = 0x30) : illegalInfo e = w / 256 := by
  have known : isOperation (w % 256) = true := by rcases op with e | e <;> rw [e] <;> rfl
  unfold decodeCmd at h
  split at h
  case h_24 =>
    rw [if_neg (Nat.not_le.mpr hw), if_pos known] at h
    cases h; rfl
  all_goals cases h

/-- Settles O16: the word's error is recorded on the state the host has left. -/
theorem illegalWordsAreApiFaults : Obligations.IllegalWordsAreApiFaults := by
  intro s it rest e hs hp hd
  have taken : step s = illegalCommand e (accept it rest s) := by
    rw [step_command hs hp, runCommand, hd]
  refine ⟨fun hf => ⟨raiseUnchanged (illegalInfo e) (accept it rest s), illegalInfo e, ?_, ?_, ?_⟩, fun f hf => ?_⟩
  · rw [taken, illegalCommand, framed_runs ((accept_status it rest s).symm ▸ hf)]
  · have idle := (accept_seq it rest s).trans hs
    rw [raiseUnchanged, record, ← idle]
  · exact illegalInfo_of_selector hd it.word.isLt
  · rw [taken, illegalCommand, framed_refused ((accept_status it rest s).symm ▸ hf), ← accept_status it rest s]
    rfl

/-! ## The decode-table entry (R126, R149) -/

theorem exhausted_of_lookup {s : State} {index maxLen : Nat} {e : Entry} (h : s.seq = .lookup index maxLen e) :
    exhausted s = { s with status := { s.status with needInput := true }, result := .exhausted, seq := .idle } := by
  unfold exhausted; rw [h]

theorem exec_dte {s : State} {index maxLen : Nat} {e : Entry} (h : s.seq = .lookup index maxLen e)
    (cl sym : BitVec 16) :
    exec (.dte cl sym) s =
      conclude ((consumeEntry index maxLen cl.toNat sym.toNat s).map fun x => answer (.symbol x.1) x.2) := by
  rw [exec, execDte, h]
  dsimp only
  cases consumeEntry index maxLen cl.toNat sym.toNat s <;> rfl

/-- Settles O23: by the entry's code length and the bits that are there. -/
theorem decodeTableEntryIsConsumed : Obligations.DecodeTableEntryIsConsumed := by
  intro s cl sym index maxLen e h
  have filled : cl ≠ 0 → cl.toNat ≠ 0 := fun hcl e => hcl (BitVec.eq_of_toNat_eq e)
  refine ⟨fun hcl held => ?_, fun hcl short => ?_, fun hcl short => ?_, fun hcl held => ?_⟩
  · rw [exec_dte h, consumeEntry, if_neg (filled hcl), if_neg (Nat.not_lt.mpr held)]
    simp only [Except.map, conclude, answer, Reader.drop, Nat.shiftRight_eq_div_pow]
  · rw [exec_dte h, consumeEntry, if_neg (filled hcl), if_pos short, exhausted_of_lookup h]; rfl
  · rw [exec_dte h, consumeEntry, if_pos (by rw [hcl]; rfl), if_pos short, exhausted_of_lookup h]; rfl
  · refine .of_exec (t := s) ?_ rfl
    rw [exec_dte h, consumeEntry, if_pos (by rw [hcl]; rfl), if_neg (Nat.not_lt.mpr held)]; rfl

/-! ## Code-length symbols (R96, R270) -/

/-- While lengths are still to come, the next code-length symbol follows. -/
theorem headerTurn_more {s : State} {j : Job} {ph : Phase} (h : s.seq = .decode j ph)
    (more : s.dec.hdr.lens.length < s.dec.hdr.hlit + s.dec.hdr.hdist) :
    headerTurn s = .ok { s with seq := .decode j .clSym } := by
  rw [headerTurn, if_pos more, goto_of_decode h]

/-- More code lengths of a dynamic header (R270). -/
def State.withLengths (new : List Nat) (s : State) : State :=
  { s with dec := { s.dec with hdr := { s.dec.hdr with lens := s.dec.hdr.lens ++ new } } }

/-- What a code-length symbol does with the lengths it stands for (R270): a single length or one not past the end is
appended, a repeat past the end is E_HEADER. -/
theorem exec_of_clRun {i : Instr} {s : State} {new : List Nat} (h : clRun i s.dec.hdr.lens = some new) :
    exec i s = conclude (
      if 1 < new.length ∧ s.dec.hdr.lens.length + new.length > s.dec.hdr.hlit + s.dec.hdr.hdist then
        .error (raise .eHeader new.length s)
      else headerTurn (s.withLengths new)) := by
  have repeated (rep v : Nat) (hr : 1 < rep) : appendRepeat rep v s =
      if 1 < (List.replicate rep v).length ∧
          s.dec.hdr.lens.length + (List.replicate rep v).length > s.dec.hdr.hlit + s.dec.hdr.hdist then
        .error (raise .eHeader (List.replicate rep v).length s)
      else headerTurn (s.withLengths (List.replicate rep v)) := by
    simp only [appendRepeat, State.withLengths, List.length_replicate, hr, true_and]
  cases i <;> simp only [clRun, Option.map_eq_some_iff, reduceCtorEq, Option.some.injEq] at h
  case cl16 x =>
    obtain ⟨prev, last, rfl⟩ := h
    rw [exec, execCl16, last, ← repeated _ _ (by omega)]
  case cl17 x => subst h; rw [exec, execCl17, ← repeated _ _ (by omega)]
  case cl18 x => subst h; rw [exec, execCl18, ← repeated _ _ (by omega)]
  all_goals subst h; rfl

/-- Settles O45: by the lengths the symbol stands for. -/
theorem codeLengthSymbolsAppendTheirLengths : Obligations.CodeLengthSymbolsAppendTheirLengths := by
  intro s j ph i new hs
  refine ⟨fun run more => ?_, fun run room past => .of_exec (t := s) ?_ rfl, fun x none => .of_exec (t := s) ?_ rfl⟩
  · have turn := headerTurn_more (s := s.withLengths new) hs (by simp only [State.withLengths, List.length_append]; omega)
    rw [exec_of_clRun run, if_neg (by omega), turn]
    rfl
  · rw [exec_of_clRun run, if_pos (by omega)]; rfl
  · rw [exec, execCl16, none]; rfl

/-! ## Length symbols (R101, R105) -/

/-- Settles O49: each symbol takes its length. -/
theorem lengthSymbolsGiveTheirLength : Obligations.LengthSymbolsGiveTheirLength := by
  intro s j ph h gives
  have takes {i : Instr} {n : Nat} (hi : exec i s = .next (takeLength n s)) : gives i n :=
    hi.trans (congrArg _ (takeLength_of_decode h n))
  and_intros <;> intros <;> exact takes rfl

end Sys2Proof.Machine
end

section
/-! PROOFS. What a match and a stored block put out (R264, R276, R277). -/

namespace Sys2Proof.Machine

/-! ## The bytes of a match (R276) -/

theorem succ_mod_cases {d : Nat} (hd : 0 < d) (k : Nat) :
    (k % d + 1 < d ∧ (k + 1) % d = k % d + 1) ∨ (k % d + 1 = d ∧ (k + 1) % d = 0) := by
  have small := Nat.mod_lt k hd
  rcases Nat.lt_or_ge (k % d + 1) d with h | h
  · exact .inl ⟨h, by rw [← Nat.mod_add_mod, Nat.mod_eq_of_lt h]⟩
  · have e : k % d + 1 = d := by omega
    exact .inr ⟨e, by rw [← Nat.mod_add_mod, e, Nat.mod_self]⟩

/-- Byte `k` of a copy is the one `d - (k mod d)` before the old end. -/
theorem copyBytes_eq {d : Nat} (hd : 0 < d) (n : Nat) {o : List Byte} (ho : d ≤ o.length) :
    copyBytes d n o = o ++ (List.range n).map fun k => o.getD (o.length - d + k % d) 0 := by
  induction n generalizing o with
  | zero => simp [copyBytes]
  | succ n ih =>
    have longer : (o ++ [o.getD (o.length - d) 0]).length = o.length + 1 := by simp
    rw [copyBytes, ih (by omega), List.range_succ_eq_map, List.map_cons, List.map_map, List.append_assoc,
      List.singleton_append, Nat.zero_mod, Nat.add_zero]
    congr 2
    refine List.map_congr_left fun k _ => ?_
    simp only [longer, Function.comp_apply, Nat.succ_eq_add_one]
    rcases succ_mod_cases hd k with ⟨more, e⟩ | ⟨last, e⟩
    · rw [e, List.getD_append _ _ _ _ (by omega)]
      congr 1
      omega
    · rw [e, List.getD_append_right _ _ _ _ (by omega), show o.length + 1 - d + k % d - o.length = 0 by omega]
      rfl

/-- The ceiling admits `n` bytes more (R277). -/
def State.Admits (s : State) (n : Nat) : Prop :=
  s.job = some .block ∨ ∀ m, s.params.maxOutputBytes = some m → s.dec.op + n ≤ m

/-- The state with another output O. -/
def State.withOut (out : List Byte) (s : State) : State := { s with dec := { s.dec with out := out } }

theorem emit_ok (b : Byte) {s : State} (h : s.Admits 1) : emit b s = .ok (s.withOut (s.dec.out ++ [b])) := by
  rcases emit_cases b s with e | ⟨ceiling, other, -⟩
  · exact e
  · rcases h with block | below
    · exact absurd block other
    · have := below _ ceiling; omega

theorem State.Admits.mono {s : State} {n k : Nat} (h : s.Admits n) (hk : k ≤ n) : s.Admits k :=
  h.imp_right fun below m hm => (Nat.add_le_add_left hk _).trans (below m hm)

theorem copyMatch_copies (d : Nat) {n : Nat} {s : State} (h : s.Admits n) :
    copyMatch d n s = .ok (s.withOut (copyBytes d n s.dec.out)) := by
  induction n generalizing s with
  | zero => rfl
  | succ n ih =>
    rw [copyMatch, emit_ok _ (h.mono (by omega))]
    dsimp only
    rw [ih]
    · rfl
    · refine h.imp_right fun below m hm => ?_
      have := below m hm
      simp only [State.withOut, Dec.op, List.length_append, List.length_singleton] at this ⊢; omega

/-- A copy past the ceiling stops at it. -/
theorem copyMatch_overflow (d : Nat) {n m : Nat} {s : State} (hj : s.job ≠ some .block)
    (hm : s.params.maxOutputBytes = some m) (below : s.dec.op ≤ m) (past : m < s.dec.op + n) :
    ∃ t, copyMatch d n s = .error (raise .eOverflow m t) ∧ t.host = s.host := by
  induction n generalizing s with
  | zero => omega
  | succ n ih =>
    rw [copyMatch]
    rcases Nat.lt_or_ge s.dec.op m with room | full
    · have admits : s.Admits 1 := .inr fun m' h => by rw [hm] at h; cases h; omega
      rw [emit_ok _ admits]
      exact ih hj hm (by simp only [State.withOut, Dec.op, List.length_append, List.length_singleton] at room ⊢; omega)
        (by simp only [State.withOut, Dec.op, List.length_append, List.length_singleton] at past ⊢; omega)
    · obtain rfl : m = s.dec.op := Nat.le_antisymm full below
      exact ⟨s, by rw [emit, if_pos ⟨hj, hm⟩], rfl⟩

theorem job_of_decode {s : State} {j : Job} {ph : Phase} (h : s.seq = .decode j ph) : s.job = some j := by
  rw [State.job, h]

/-! ## Distance symbols (R102, R106, R275) -/

section
variable {s : State} {j : Job} {ph : Phase} {i : Instr} {d : Nat}

theorem takeDistance_copies (h : s.seq = .decode j ph) (hd : 0 < d) (within : d ≤ s.dec.op)
    (admits : s.Admits s.dec.matchLen) :
    takeDistance d s = .ok
      { s with
        dec := { s.dec with
                 out := s.dec.out ++
                   (List.range s.dec.matchLen).map fun k => s.dec.out.getD (s.dec.out.length - d + k % d) 0 }
        seq := .decode j .litLen } := by
  rw [takeDistance, if_neg (Nat.not_lt.mpr within), copyMatch_copies d admits, ← copyBytes_eq hd _ within, Except.map]
  exact congrArg _ (goto_of_decode (s := s.withOut (copyBytes d s.dec.matchLen s.dec.out)) h .litLen)

theorem takeDistance_overflow {m : Nat} (h : s.seq = .decode j ph) (within : d ≤ s.dec.op) (hj : j ≠ .block)
    (hm : s.params.maxOutputBytes = some m) (below : s.dec.op ≤ m) (past : m < s.dec.op + s.dec.matchLen) :
    ∃ t, takeDistance d s = .error (raise .eOverflow m t) ∧ t.host = s.host := by
  obtain ⟨t, copied, host⟩ := copyMatch_overflow d (by rw [job_of_decode h]; simpa using hj) hm below past
  exact ⟨t, by rw [takeDistance, if_neg (Nat.not_lt.mpr within), copied]; rfl, host⟩

end

/-- Settles O50: each symbol takes its distance, which is at least 1. -/
theorem distanceSymbolsCopyTheMatch : Obligations.DistanceSymbolsCopyTheMatch := by
  intro s j ph h gives
  have takes {i : Instr} {d : Nat} (hi : exec i s = conclude (takeDistance d s)) (hd : 0 < d) : gives i d := by
    refine ⟨fun within admits => ?_, fun beyond => .of_exec (t := s) ?_ rfl, fun m within hj hm below past => ?_⟩
    · rw [hi, takeDistance_copies h hd within (admits.imp_left fun e => job_of_decode (e ▸ h))]; rfl
    · rw [hi, takeDistance, if_pos beyond]; rfl
    · obtain ⟨t, stops, host⟩ := takeDistance_overflow (d := d) h within hj hm below past
      exact .of_exec (by rw [hi, stops]; rfl) host
  have takesExtra {w base : Nat} {f : BitVec w → Instr}
      (hi : ∀ x, exec (f x) s = conclude (takeDistance (base + x.toNat) s)) (hb : 0 < base) (x : BitVec w) :
      gives (f x) (base + x.toNat) := takes (hi x) (Nat.add_pos_left hb _)
  have pos {n : Nat} : 0 < n + 1 := n.succ_pos
  refine ⟨takes rfl pos, takes rfl pos, takes rfl pos, takes rfl pos, ?_⟩
  and_intros <;> exact takesExtra (fun _ => rfl) pos

/-! ## The bytes of a stored block (R264) -/

/-- `n` bytes of a memory from address `a` on. -/
def Memory.bytesAt (m : Memory) (a n : Nat) : List Byte := (List.range n).map fun k => (m.read (a + k)).getD 0

theorem Memory.bytesAt_succ (m : Memory) (a n : Nat) :
    m.bytesAt a (n + 1) = [(m.read a).getD 0] ++ m.bytesAt (a + 1) n := by
  rw [bytesAt, List.range_succ_eq_map, List.map_cons, List.map_map]
  refine congrArg (_ :: ·) (List.map_congr_left fun k _ => ?_)
  simp only [Function.comp_apply, Nat.succ_eq_add_one, show a + (k + 1) = a + 1 + k by omega]

theorem State.Consumed.of_fields {n : Nat} {s s' t t' : State} (h : s.Consumed n t) (from_ : s'.br = s.br)
    (inMem : t'.inMem = t.inMem) (inKept : t'.inKept = t.inKept) (br : t'.br = t.br) : s'.Consumed n t' := by
  obtain ⟨reading, rest⟩ := h
  refine ⟨reading.of_fields inMem inKept br, ?_⟩
  rw [from_, br]
  exact rest

theorem flushBlocks_frame (s : State) :
    flushBlocks s = { s with dec := { s.dec with blocks := (flushBlocks s).dec.blocks } } := by
  unfold flushBlocks
  split
  · dsimp only; split <;> rfl
  · rfl

theorem flushBlocks_of_not_block {s : State} {j : Job} {ph : Phase} (h : s.seq = .decode j ph) (hj : j ≠ .block) :
    flushBlocks s = s := by
  unfold flushBlocks
  split
  next e => rw [h] at e; cases e; exact absurd rfl hj
  next => rfl

/-- The eight bits at a byte boundary are the byte there. -/
theorem State.Reading.field_byte {s : State} (h : s.Reading) (aligned : s.br.pos % 8 = 0) (ha : 8 ≤ s.avail) :
    BitVec.ofNat 8 (s.inMem.field s.br.pos 8) = (s.inMem.read (s.br.pos / 8)).getD 0 := by
  obtain ⟨b, hb⟩ := Option.isSome_iff_exists.mp (h.bytes (s.br.pos / 8) (by simp only [State.avail] at ha; omega))
  rw [show s.br.pos = 8 * (s.br.pos / 8) by omega, Memory.field_byte hb, show 8 * (s.br.pos / 8) / 8 = s.br.pos / 8 by omega,
    hb, BitVec.ofNat_toNat, BitVec.setWidth_eq]
  rfl

/-- From `s` to `u` the bytes `bs` of the input have gone to the output. -/
structure CopiedBytes (j : Job) (bs : List Byte) (left : Nat) (s u : State) : Prop where
  frame    : u = { s with
                   br := u.br
                   dec := { s.dec with out := s.dec.out ++ bs, blockLen := left, blocks := u.dec.blocks } }
  blocks   : j ≠ .block → u.dec.blocks = s.dec.blocks
  consumed : s.Consumed (8 * bs.length) u

theorem CopiedBytes.trans {j : Job} {a b : List Byte} {n k : Nat} {s t u : State} (h : CopiedBytes j a n s t)
    (h' : CopiedBytes j b k t u) : CopiedBytes j (a ++ b) k s u where
  frame := by
    have e := h'.frame
    rw [h.frame] at e
    rw [← List.append_assoc]
    exact e
  blocks hj := (h'.blocks hj).trans (h.blocks hj)
  consumed := by
    rw [List.length_append, Nat.mul_add]
    exact h.consumed.trans h'.consumed

section
variable {s : State} {j : Job} {ph : Phase}

/-- One stored byte. -/
theorem copyStored_succ {n : Nat} (hs : s.seq = .decode j ph) (h : s.Reading) (aligned : s.br.pos % 8 = 0)
    (ha : 8 ≤ s.avail) (admits : s.Admits 1) :
    ∃ u, copyStored (n + 1) s = copyStored n u ∧
      CopiedBytes j [(s.inMem.read (s.br.pos / 8)).getD 0] n s u := by
  have there : ¬(8 * s.br.inputLength - s.br.pos < 8 ∧ s.job = some .stream) := fun e => by
    simp only [State.avail] at ha; omega
  have prep := Prepared.flushBlocks h
  have frame := flushBlocks_frame s
  have same : j ≠ .block → flushBlocks s = s := flushBlocks_of_not_block hs
  rw [copyStored, if_neg there]
  generalize flushBlocks s = f at *
  obtain ⟨r, read, consumed⟩ := readBits_takes (n := 8) (by decide) prep.reading (by rwa [prep.avail])
  have byte : BitVec.ofNat 8 (f.inMem.field f.br.pos 8) = (s.inMem.read (s.br.pos / 8)).getD 0 := by
    rw [prep.inMem, prep.pos, h.field_byte aligned ha]
  have admits' : State.Admits { f with br := r } 1 := by rw [frame]; exact admits
  refine ⟨_, by rw [read]; dsimp only; rw [byte, emit_ok _ admits'], ?_, ?_, ?_⟩
  · rw [frame]; rfl
  · exact fun hj => (congrArg (fun t : State => t.dec.blocks) (same hj) :)
  · exact consumed.of_fields (by rw [frame]) rfl rfl rfl

theorem copyStored_copies {n : Nat} (hs : s.seq = .decode j ph) (h : s.Reading) (aligned : s.br.pos % 8 = 0)
    (ha : 8 * n ≤ s.avail) (admits : s.Admits n) (hn : s.dec.blockLen = n) :
    ∃ u, copyStored n s = .ok u ∧ CopiedBytes j (s.inMem.bytesAt (s.br.pos / 8) n) 0 s u := by
  induction n generalizing s with
  | zero =>
    refine ⟨s, rfl, ?_, fun _ => rfl, h, rfl, rfl, rfl, rfl⟩
    have none : s.inMem.bytesAt (s.br.pos / 8) 0 = [] := rfl
    rw [none, List.append_nil, ← hn]
  | succ n ih =>
    obtain ⟨t, one, ht⟩ := copyStored_succ (n := n) hs h aligned (by omega) (admits.mono (by omega))
    obtain ⟨reading, pos, -⟩ := ht.consumed
    have seq : t.seq = .decode j ph := by rw [ht.frame]; exact hs
    have inMem : t.inMem = s.inMem := by rw [ht.frame]
    have len : t.dec.blockLen = n := by rw [ht.frame]
    have admits' : t.Admits n := by
      rw [ht.frame]
      refine admits.imp_right fun below m hm => ?_
      have := below m hm
      simp only [Dec.op, List.length_append, List.length_singleton] at this ⊢; omega
    have avail := ht.consumed.avail
    rw [List.length_singleton] at pos avail
    obtain ⟨u, rest, hu⟩ := ih seq reading (by omega) (by omega) admits' len
    rw [inMem, show t.br.pos / 8 = s.br.pos / 8 + 1 by omega] at hu
    exact ⟨u, one.trans rest, Memory.bytesAt_succ .. ▸ ht.trans hu⟩

/-- The end of the last block of DEC.*, whatever is returned. -/
theorem endBlock_answers (h : s.seq = .decode j ph) (hj : j ≠ .stream) (hb : s.dec.bfinal = true) :
    endBlock s = answerDone (decodeResult s) s := by
  rw [endBlock, streamState_of_not_stream h hj, if_pos hb]
  split
  next e => rw [h] at e; cases e; exact absurd rfl hj
  next => rfl

/-- The end of a block is about STATUS, the result, SDEC and what comes next. -/
theorem endBlock_frame (h : s.seq = .decode j ph) :
    endBlock s =
      { s with
        status := (endBlock s).status, result := (endBlock s).result, seq := (endBlock s).seq
        sdec := if j = .stream then (endBlock s).sdec else s.sdec } := by
  cases hb : s.dec.bfinal with
  | false => rw [endBlock_more h hb]; cases j <;> rfl
  | true =>
    cases j with
    | stream => rw [endBlock_stream h hb]; rfl
    | block | adaptive => rw [endBlock_answers h (by decide) hb]; rfl

/-- The stored block announced by a header that agrees, in SDEC.state as the block's body begins. -/
def State.storedBegun (j : Job) (len : Nat) (s : State) : State :=
  { s with
    dec := { s.dec with blockLen := len }
    sdec := if j = .stream then { s.sdec with state := .decodeBlockStart } else s.sdec }

theorem exec_storedHdr (h : s.seq = .decode j ph) {len nlen : BitVec 16} (agree : len ^^^ nlen = 0xFFFF) :
    exec (.storedHdr len nlen) s = conclude (storedBody (s.storedBegun j len.toNat)) := by
  rw [exec, execStoredHdr, if_neg (not_not.mpr agree)]
  cases j <;> simp [State.streamState, h, State.storedBegun]

theorem storedBody_truncated (h : s.seq = .decode j ph) (hj : j ≠ .stream) (short : 8 * s.dec.blockLen > s.avail) :
    storedBody s = .error (raise .eTruncated s.br.pos s) := by
  rw [storedBody, if_pos ⟨by rw [job_of_decode h]; simpa using hj, short⟩]

theorem storedBody_copies (hs : s.seq = .decode j ph) (h : s.Reading) (aligned : s.br.pos % 8 = 0)
    (ha : 8 * s.dec.blockLen ≤ s.avail) (admits : s.Admits s.dec.blockLen) :
    ∃ u, storedBody s = .ok (endBlock u) ∧
      CopiedBytes j (s.inMem.bytesAt (s.br.pos / 8) s.dec.blockLen) 0 s u := by
  obtain ⟨u, copied, hu⟩ := copyStored_copies hs h aligned ha admits rfl
  exact ⟨u, by rw [storedBody, if_neg fun e => Nat.not_lt.mpr ha e.2, copied]; rfl, hu⟩

end

/-- Settles O43: the header's check, then the bytes one by one, then the end of the block. -/
theorem storedBlockCopiesItsBytes : Obligations.StoredBlockCopiesItsBytes := by
  intro s j ph len nlen hs
  refine ⟨fun wrong => .of_exec (t := s) ?_ rfl, fun agree hj short => ?_, fun agree h aligned ha admits => ?_⟩
  · rw [exec, execStoredHdr, if_pos wrong]
  · refine .of_exec (t := s.storedBegun j len.toNat) ?_ rfl
    rw [exec_storedHdr hs agree, storedBody_truncated (s := s.storedBegun j len.toNat) hs hj short]
    rfl
  · obtain ⟨u, body, frame, blocks, consumed⟩ := storedBody_copies (s := s.storedBegun j len.toNat) hs
      (h.of_fields rfl rfl rfl) aligned ha (admits.imp_left fun e => job_of_decode (e ▸ hs))
    have seq : u.seq = .decode j ph := by rw [frame]; exact hs
    have final : u.dec.bfinal = s.dec.bfinal := by rw [frame]; rfl
    have status : u.status = s.status := by rw [frame]; rfl
    have out : u.dec.out = s.dec.out ++
        (List.range len.toNat).map fun k => (s.inMem.read (s.br.pos / 8 + k)).getD 0 := by rw [frame]; rfl
    have ended := endBlock_frame seq
    have dec : (endBlock u).dec = u.dec := (congrArg State.dec ended :)
    refine ⟨endBlock u, by rw [exec_storedHdr hs agree, body]; rfl, by rw [dec, out], ?_, ?_, fun hb => ?_, fun hb => ?_⟩
    · have n : (Memory.bytesAt s.inMem (s.br.pos / 8) len.toNat).length = len.toNat := by simp [Memory.bytesAt]
      refine n ▸ consumed.of_fields rfl ?_ ?_ ?_ <;> rw [ended]
    · have br : (endBlock u).br = u.br := (congrArg State.br ended :)
      rw [dec, br]
      refine ended.trans ?_
      generalize (endBlock u).status = st, (endBlock u).result = res, (endBlock u).seq = q, (endBlock u).sdec = x
      generalize u.br = r, u.dec.blocks = bs, u.dec.out = o at *
      subst frame
      cases j with
      | block => subst out; rfl
      | adaptive | stream => subst out; rw [blocks (by decide)]; rfl
    · have hb := final.trans hb
      cases j with
      | block => rw [endBlock_answers seq (by decide) hb, ← status]; exact ⟨rfl, rfl, nofun, nofun⟩
      | adaptive =>
        rw [endBlock_answers seq (by decide) hb, ← status]
        exact ⟨rfl, rfl, fun _ => by rw [answerDone_result, decodeResult, seq]; rfl, nofun⟩
      | stream =>
        have sp : u.sdec.sp = s.sdec.sp := by rw [frame]; rfl
        rw [endBlock_stream seq hb, ← status, ← sp]
        exact ⟨rfl, rfl, nofun, fun _ => ⟨rfl, rfl⟩⟩
    · rw [endBlock_more seq (final.trans hb)]
      exact ⟨status, by rw [frame]; rfl, rfl⟩

end Sys2Proof.Machine
end

section
/-! PROOFS. Canonical codes (R110, R162, R204 c, R210): the Kraft inequality holds exactly where, length by length, there
are codes for the symbols, and then CCB.CODES gives every symbol its canonical code. -/

namespace Sys2Proof.Machine

/-! ## The Kraft inequality, length by length -/

/-- How many codes of length `l` the symbols of lengths 1 to `l` take up. -/
def codesTaken (lens : List Nat) (l : Nat) : Nat := (lens.map fun k => if 1 ≤ k ∧ k ≤ l then 2 ^ (l - k) else 0).sum

theorem firstCode_add_count (lens : List Nat) {l : Nat} (h : 1 ≤ l) :
    firstCode lens 1 0 l + lens.count l = codesTaken lens l := by
  rw [firstCode, Nat.zero_mul, Nat.zero_add, codesTaken]
  induction lens with
  | nil => rfl
  | cons k lens ih =>
    simp only [List.map_cons, List.sum_cons, ← ih]
    rcases Nat.lt_trichotomy k l with below | rfl | above
    · rw [List.count_cons_of_ne (Nat.ne_of_lt below)]
      simp only [below, below.le, and_true]
      omega
    · rw [List.count_cons_self, if_neg (by omega), if_pos ⟨h, le_rfl⟩, Nat.sub_self, Nat.pow_zero]
      omega
    · rw [List.count_cons_of_ne (Nat.ne_of_gt above), if_neg (by omega), if_neg (by omega)]
      omega

/-- Codes of length `l` each stand for `2 ^ (L - l)` of length `L`. -/
theorem codesTaken_mul_le (lens : List Nat) {l L : Nat} (h : l ≤ L) :
    codesTaken lens l * 2 ^ (L - l) ≤ kraftSum L lens := by
  rw [codesTaken, kraftSum]
  induction lens with
  | nil => simp
  | cons k lens ih =>
    simp only [List.map_cons, List.sum_cons, Nat.add_mul]
    refine Nat.add_le_add ?_ ih
    split
    next used => rw [if_neg (by omega), ← Nat.pow_add, show l - k + (L - l) = L - k by omega]
    next => rw [Nat.zero_mul]; exact Nat.zero_le _

theorem kraftSum_eq {lens : List Nat} {l L : Nat} (h : l ≤ L) (all : ∀ k ∈ lens, k ≤ l) :
    kraftSum L lens = codesTaken lens l * 2 ^ (L - l) := by
  rw [codesTaken, kraftSum]
  induction lens with
  | nil => simp
  | cons k lens ih =>
    obtain ⟨hk, rest⟩ := List.forall_mem_cons.mp all
    simp only [List.map_cons, List.sum_cons, Nat.add_mul, ih rest]
    congr 1
    rcases Nat.eq_zero_or_pos k with rfl | pos
    · simp
    · rw [if_neg (by omega), if_pos ⟨pos, hk⟩, ← Nat.pow_add, show l - k + (L - l) = L - k by omega]

/-- Length by length there are codes for the symbols (R166, R204 c). -/
def CodesFit (lens : List Nat) : Prop :=
  ∀ l, 1 ≤ l → l < 1 + maxLen lens → firstCode lens 1 0 l + lens.count l ≤ 2 ^ l

theorem codesFit_iff {lens : List Nat} {L : Nat} (h : ∀ k ∈ lens, k ≤ L) : CodesFit lens ↔ kraftSum L lens ≤ 2 ^ L := by
  have most : maxLen lens ≤ L := foldl_max_le (Nat.zero_le L) h
  constructor
  · intro fit
    have whole : 2 ^ L = 2 ^ maxLen lens * 2 ^ (L - maxLen lens) := by rw [← Nat.pow_add, Nat.add_sub_cancel' most]
    rw [kraftSum_eq most (fun k => le_maxLen), whole]
    refine Nat.mul_le_mul_right _ ?_
    rcases Nat.eq_zero_or_pos (maxLen lens) with none | pos
    · have taken : codesTaken lens 0 = 0 := by
        refine List.sum_eq_zero fun x hx => ?_
        obtain ⟨k, -, rfl⟩ := List.mem_map.mp hx
        exact if_neg (by omega)
      rw [none, taken]; exact Nat.zero_le _
    · rw [← firstCode_add_count lens pos]
      exact fit _ pos (by omega)
  · intro kraft l low high
    have le : l ≤ L := by omega
    have whole : 2 ^ L = 2 ^ l * 2 ^ (L - l) := by rw [← Nat.pow_add, Nat.add_sub_cancel' le]
    rw [firstCode_add_count lens low]
    refine Nat.le_of_mul_le_mul_right ?_ (Nat.two_pow_pos (L - l))
    rw [← whole]
    exact (codesTaken_mul_le lens le).trans kraft

/-! ## HTB.BUILD fits exactly where the codes do -/

theorem placeSymbols_code_le {bl i : Nat} {lens : List Nat} {b b' : Build} (hb : b.code ≤ 2 ^ bl)
    (h : placeSymbols bl i lens b = .ok b') : b'.code ≤ 2 ^ bl := by
  induction lens generalizing i b with
  | nil => cases h; exact hb
  | cons l lens ih =>
    by_cases hl : l = bl
    · subst hl
      by_cases full : 2 ^ l ≤ b.code
      · rw [placeSymbols_full full] at h; cases h
      · rw [placeSymbols_fits (Nat.lt_of_not_le full)] at h
        exact ih (b := b.place l i) (Nat.lt_of_not_le full) h
    · rw [placeSymbols_other hl] at h
      exact ih hb h

theorem placeLengths_fits {lens : List Nat} {bl n : Nat} {b b' : Build} (hb : b.code ≤ 2 ^ bl)
    (h : placeLengths lens bl n b = .ok b') {l : Nat} (low : bl ≤ l) (high : l < bl + n) :
    firstCode lens bl b.code l + lens.count l ≤ 2 ^ l := by
  induction n generalizing bl b with
  | zero => omega
  | succ n ih =>
    cases hp : placeSymbols bl 0 lens b with
    | error i => rw [placeLengths, hp] at h; cases h
    | ok b1 =>
      have code := (placeSymbols_placed hp).code
      have le := placeSymbols_code_le hb hp
      rcases Nat.eq_or_lt_of_le low with rfl | low
      · rw [firstCode_self, ← code]; exact le
      · have later := ih (b := { b1 with code := b1.code * 2 }) (by simp only [Nat.pow_succ]; omega)
          ((placeLengths_succ hp).mp h) low (by omega)
        simp only [code] at later
        rwa [firstCode_next _ _ low] at later

theorem htbBuild_isOk_iff {lens : List Nat} : (∃ t c, htbBuild lens = .ok (t, c)) ↔ CodesFit lens := by
  constructor
  · rintro ⟨t, c, built⟩ l low high
    obtain ⟨table, placed, -⟩ := htbBuild_ok_iff.mp built
    exact placeLengths_fits (Nat.zero_le _) placed low high
  · intro fit
    obtain ⟨c, built⟩ := htbBuild_ok fun l low high => fit l low (by omega)
    exact ⟨_, c, built⟩

/-! ## CCB.CODES (R210) -/

theorem codeLevel_other {bl l : Nat} (h : l ≠ bl) (lens : List Nat) (c : Nat) (codes : List Nat) (next : Nat) :
    codeLevel bl (l :: lens) (c :: codes) next =
      (codeLevel bl lens codes next).map fun x => (c :: x.1, x.2) := by rw [codeLevel, if_neg h]

theorem codeLevel_fits {bl next : Nat} (h : next < 2 ^ bl) (lens : List Nat) (c : Nat) (codes : List Nat) :
    codeLevel bl (bl :: lens) (c :: codes) next =
      (codeLevel bl lens codes (next + 1)).map fun x => (revBits bl next :: x.1, x.2) := by
  rw [codeLevel, if_pos rfl, if_neg (Nat.not_le.mpr h)]

theorem codeLevel_full {bl next : Nat} (h : 2 ^ bl ≤ next) (lens : List Nat) (c : Nat) (codes : List Nat) :
    codeLevel bl (bl :: lens) (c :: codes) next = none := by rw [codeLevel, if_pos rfl, if_pos h]

/-- What the codes of one length are: consecutive from `next` on. -/
structure CodedLevel (bl : Nat) (lens codes : List Nat) (next : Nat) (x : List Nat × Nat) : Prop where
  last   : x.2 = next + lens.count bl
  length : x.1.length = codes.length
  codes  : ∀ i l, lens[i]? = some l →
    x.1[i]? = if l = bl then some (revBits bl (next + (lens.take i).count bl)) else codes[i]?

theorem codeLevel_coded {bl next : Nat} {lens codes : List Nat} {x : List Nat × Nat} (size : codes.length = lens.length)
    (h : codeLevel bl lens codes next = some x) : CodedLevel bl lens codes next x := by
  induction lens generalizing codes next x with
  | nil => rw [codeLevel] at h; cases h; exact ⟨rfl, rfl, fun i l hi => by cases hi⟩; simp
  | cons k lens ih =>
    obtain ⟨c, codes, rfl⟩ : ∃ c cs, codes = c :: cs := List.exists_cons_of_length_eq_add_one size
    have size' : codes.length = lens.length := Nat.succ.inj size
    by_cases hk : k = bl
    · subst hk
      by_cases full : 2 ^ k ≤ next
      · rw [codeLevel_full full] at h; cases h
      rw [codeLevel_fits (Nat.lt_of_not_le full), Option.map_eq_some_iff] at h
      obtain ⟨y, hy, rfl⟩ := h
      obtain ⟨last, length, coded⟩ := ih size' hy
      refine ⟨by rw [List.count_cons_self]; omega, by simp [length], fun i l hi => ?_⟩
      cases i with
      | zero => cases hi; simp
      | succ i =>
        rw [List.getElem?_cons_succ] at hi
        simp only [List.getElem?_cons_succ, List.take_succ_cons, List.count_cons_self, coded i l hi, Nat.add_assoc,
          Nat.add_comm 1]
    · rw [codeLevel_other hk, Option.map_eq_some_iff] at h
      obtain ⟨y, hy, rfl⟩ := h
      obtain ⟨last, length, coded⟩ := ih size' hy
      refine ⟨by rw [List.count_cons_of_ne hk]; exact last, by simp [length], fun i l hi => ?_⟩
      cases i with
      | zero => cases hi; simp [hk]
      | succ i =>
        rw [List.getElem?_cons_succ] at hi
        simp only [List.getElem?_cons_succ, List.take_succ_cons, List.count_cons_of_ne hk, coded i l hi]

theorem codeLevel_isSome_iff {bl next : Nat} {lens codes : List Nat} (size : codes.length = lens.length)
    (h : next ≤ 2 ^ bl) : (codeLevel bl lens codes next).isSome ↔ next + lens.count bl ≤ 2 ^ bl := by
  induction lens generalizing codes next with
  | nil => rw [codeLevel] <;> simp [h]
  | cons k lens ih =>
    obtain ⟨c, codes, rfl⟩ : ∃ c cs, codes = c :: cs := List.exists_cons_of_length_eq_add_one size
    have size' : codes.length = lens.length := Nat.succ.inj size
    by_cases hk : k = bl
    · subst hk
      rw [List.count_cons_self]
      by_cases full : 2 ^ k ≤ next
      · rw [codeLevel_full full]; simp; omega
      · rw [codeLevel_fits (Nat.lt_of_not_le full), Option.isSome_map, ih size' (Nat.lt_of_not_le full)]; omega
    · rw [codeLevel_other hk, Option.isSome_map, ih size' h, List.count_cons_of_ne hk]

theorem codeLevels_coded {lens codes codes' : List Nat} {bl n next : Nat} (size : codes.length = lens.length)
    (h : codeLevels lens bl n codes next = some codes') :
    codes'.length = lens.length ∧ ∀ i l, lens[i]? = some l →
      codes'[i]? = if bl ≤ l ∧ l < bl + n then some (revBits l (firstCode lens bl next l + (lens.take i).count l))
        else codes[i]? := by
  induction n generalizing bl codes next with
  | zero => cases h; exact ⟨size, fun i l _ => by rw [if_neg (by omega)]⟩
  | succ n ih =>
    rw [codeLevels] at h
    split at h
    next => cases h
    next mid next' hl =>
      obtain ⟨last, length, level⟩ := codeLevel_coded size hl
      obtain ⟨length', levels⟩ := ih (length.trans size) h
      refine ⟨length', fun i l hi => ?_⟩
      rw [levels i l hi]
      simp only at last level
      rcases Nat.lt_trichotomy l bl with below | rfl | above
      · rw [if_neg (by omega), if_neg (by omega), level i l hi, if_neg (by omega)]
      · rw [if_neg (by omega), if_pos (by omega), level i l hi, if_pos rfl, firstCode_self]
      · rw [last, firstCode_next _ _ above, level i l hi, if_neg (Nat.ne_of_gt above)]
        exact if_congr (by omega) rfl rfl

theorem codeLevels_isSome_iff {lens codes : List Nat} {bl n next : Nat} (size : codes.length = lens.length)
    (h : next ≤ 2 ^ bl) : (codeLevels lens bl n codes next).isSome ↔
      ∀ l, bl ≤ l → l < bl + n → firstCode lens bl next l + lens.count l ≤ 2 ^ l := by
  induction n generalizing bl codes next with
  | zero => simp only [codeLevels, Option.isSome_some, true_iff]; omega
  | succ n ih =>
    have first := codeLevel_isSome_iff (next := next) size h
    rw [codeLevels]
    split
    next none =>
      rw [none] at first
      simp only [Option.isSome_none, Bool.false_eq_true, false_iff] at first ⊢
      exact fun all => first (firstCode_self lens bl next ▸ all bl le_rfl (by omega))
    next mid next' hl =>
      obtain ⟨last, length, -⟩ := codeLevel_coded size hl
      simp only at last length
      rw [hl] at first
      have fits : next + lens.count bl ≤ 2 ^ bl := first.mp rfl
      rw [ih (length.trans size) (by rw [last, Nat.pow_succ]; omega), last]
      constructor
      · intro later l low high
        rcases Nat.eq_or_lt_of_le low with rfl | low
        · rw [firstCode_self]; exact fits
        · rw [← firstCode_next _ _ low]; exact later l low (by omega)
      · intro all l low high
        rw [firstCode_next _ _ low]; exact all l (by omega) (by omega)

/-- CCB.CODES has codes exactly where they fit. -/
theorem ccbCodes_isSome_iff {lens : List Nat} : (ccbCodes lens).isSome ↔ CodesFit lens :=
  codeLevels_isSome_iff (by simp) (Nat.zero_le _)

/-- The codes of CCB.CODES are the canonical ones, stored bit-reversed; that of an unused symbol is 0. -/
theorem ccbCodes_canonical {lens codes : List Nat} (h : ccbCodes lens = some codes) :
    codes.length = lens.length ∧
      ∀ i, i < lens.length → codes.getD i 0 = revBits (lens.getD i 0) (canonicalCode lens i) := by
  obtain ⟨length, coded⟩ := codeLevels_coded (by simp) h
  refine ⟨length, fun i hi => ?_⟩
  obtain ⟨l, hl⟩ : ∃ l, lens[i]? = some l := ⟨_, List.getElem?_eq_getElem hi⟩
  have value : lens.getD i 0 = l := by rw [List.getD_eq_getElem?_getD, hl]; rfl
  rw [List.getD_eq_getElem?_getD, coded i l hl, value]
  rcases Nat.eq_zero_or_pos l with rfl | pos
  · rw [if_neg (by omega), List.getElem?_replicate, if_pos hi]; rfl
  · have le : l ≤ maxLen lens := le_maxLen (List.mem_of_getElem? hl)
    have within : 1 ≤ l ∧ l < 1 + lens.foldl max 0 := ⟨pos, by rw [maxLen] at le; omega⟩
    rw [if_pos within, canonicalCode_eq hl]; rfl

theorem ccbCodes_lt {lens codes : List Nat} (h : ccbCodes lens = some codes) {i : Nat} (hi : i < lens.length) :
    codes.getD i 0 < 2 ^ lens.getD i 0 := by
  rw [(ccbCodes_canonical h).2 i hi]
  exact revBits_lt _ _

/-- The table an operand of CCB.CODES stands for. -/
theorem resolveTable_eq {tables : Alphabet → Table} {a : TableArg} {l : List Nat}
    (h : a = .lit l ∨ ∃ al, a = .reg al ∧ (tables al).written = true ∧ (tables al).entries = l) :
    resolveTable tables a = some l := by
  rcases h with rfl | ⟨al, rfl, written, rfl⟩
  · rfl
  · rw [resolveTable, if_pos written]

theorem exec_ccbCodes_failed {s : State} {a : TableArg} (hf : s.status.fault = none)
    (h : resolveTable s.lenTable a = none ∨ ∃ lens, resolveTable s.lenTable a = some lens ∧ ccbCodes lens = none) :
    exec (.ccbCodes a) s = .next (raise .eApi 0 (beginCommand false s)) := by
  have table : (beginCommand false s).lenTable = s.lenTable := rfl
  rw [exec, execCcbCodes, framed_runs hf, table]
  rcases h with none | ⟨lens, some, none⟩
  · rw [none]
  · rw [some]
    dsimp only
    rw [none]
    split <;> rfl

theorem exec_ccbCodes_ok {s : State} {a : TableArg} {lens codes : List Nat} (hf : s.status.fault = none)
    (ok : lengthsOk lens = true) (h : resolveTable s.lenTable a = some lens) (hc : ccbCodes lens = some codes) :
    ∃ t, exec (.ccbCodes a) s = .next t ∧ (∀ l, a = .lit l → t = s.ended (.codes codes)) ∧
      ∀ al, a = .reg al → t = (s.ended (.codes codes)).putCodes al codes := by
  have table : (beginCommand false s).lenTable = s.lenTable := rfl
  rw [exec, execCcbCodes, framed_runs hf, table, h]
  dsimp only
  rw [if_pos ok, hc]
  cases a with
  | lit l => exact ⟨_, rfl, fun _ _ => rfl, nofun⟩
  | reg al => exact ⟨_, rfl, nofun, fun _ e => by cases e; cases al <;> rfl⟩

/-- Settles O35: by the Kraft inequality there are codes or there are not. -/
theorem ccbCodesAreCanonical : Obligations.CcbCodesAreCanonical := by
  refine ⟨fun o => rfl, fun s a lens hf ok ha => ?_, fun s al hf unwritten => ?_⟩
  · have resolved := resolveTable_eq (tables := s.lenTable) ha
    have fits := codesFit_iff (lengthsOk_iff.mp ok)
    refine ⟨fun kraft => ?_, fun past => ?_⟩
    · obtain ⟨codes, hc⟩ := Option.isSome_iff_exists.mp (ccbCodes_isSome_iff.mpr (fits.mpr kraft))
      obtain ⟨length, canonical⟩ := ccbCodes_canonical hc
      obtain ⟨t, run, lit, reg⟩ := exec_ccbCodes_ok hf ok resolved hc
      exact ⟨t, codes, run, lit, reg, length, canonical⟩
    · refine .of_exec (exec_ccbCodes_failed hf (.inr ⟨lens, resolved, ?_⟩)) rfl
      exact Option.not_isSome_iff_eq_none.mp fun some =>
        Nat.not_lt.mpr (fits.mp (ccbCodes_isSome_iff.mp some)) past
  · exact .of_exec (exec_ccbCodes_failed hf (.inl (if_neg (ne_true_of_eq_false unwritten)))) rfl

end Sys2Proof.Machine
end

section
/-! PROOFS. The header of a dynamic block: the counts, the code-length lengths in their permutation order, their table
(R95, R270, R272). -/

namespace Sys2Proof.Machine

/-! ## The code-length lengths (R95) -/

/-- The 3-bit fields from stream bit `p` on, put into `lens` at the symbols of `order`. -/
def clFields (m : Memory) : Nat → List Nat → List Nat → List Nat
  | _, [], lens => lens
  | p, sym :: order, lens => clFields m (p + 3) order (lens.set sym (m.field p 3))

theorem readClLengths_takes {order lens : List Nat} {s : State} (h : s.Reading) (ha : 3 * order.length ≤ s.avail) :
    Takes (3 * order.length) (clFields s.inMem s.br.pos order lens) s (readClLengths order lens s) := by
  induction order generalizing lens s with
  | nil => exact ⟨s.br, rfl, h, rfl, rfl, rfl, rfl⟩
  | cons sym order ih =>
    rw [List.length_cons] at ha ⊢
    obtain ⟨r, read, taken⟩ := readBits_takes (n := 3) (by decide) h (by omega)
    obtain ⟨r', rest, taken'⟩ := ih (lens := lens.set sym (s.inMem.field s.br.pos 3)) taken.1 (by rw [taken.avail]; omega)
    refine ⟨r', ?_, ?_⟩
    · rw [readClLengths, read]
      dsimp only
      rw [rest, clFields, ← taken.2.1]
    · rw [show 3 * (order.length + 1) = 3 + 3 * order.length by omega]
      exact taken.trans taken'

theorem length_clFields (m : Memory) (p : Nat) (order lens : List Nat) :
    (clFields m p order lens).length = lens.length := by
  induction order generalizing p lens with
  | nil => rfl
  | cons sym order ih => rw [clFields, ih, List.length_set]

/-- A symbol of the order has its field, any other its old length. -/
theorem getD_clFields (m : Memory) (p : Nat) {order lens : List Nat} (nodup : order.Nodup) {sym : Nat}
    (hs : sym < lens.length) :
    (clFields m p order lens).getD sym 0 =
      if sym ∈ order then m.field (p + 3 * order.idxOf sym) 3 else lens.getD sym 0 := by
  induction order generalizing p lens with
  | nil => rfl
  | cons a order ih =>
    obtain ⟨first, nodup⟩ := List.nodup_cons.mp nodup
    rw [clFields, ih (p + 3) nodup (by rwa [List.length_set])]
    rcases eq_or_ne a sym with rfl | other
    · rw [if_neg first, if_pos List.mem_cons_self, List.idxOf_cons_self, Nat.mul_zero, Nat.add_zero,
        List.getD_eq_getElem _ _ (by rwa [List.length_set]), List.getElem_set_self]
    · rw [List.getD_eq_getElem?_getD, List.getElem?_set_ne other, ← List.getD_eq_getElem?_getD, List.idxOf_cons_ne _ other]
      simp only [List.mem_cons, other.symm, false_or]
      rw [show p + 3 + 3 * order.idxOf sym = p + 3 * (order.idxOf sym + 1) by omega]

theorem mem_clOrder {sym : Nat} (h : sym < 19) : sym ∈ clOrder := by
  have all : ∀ sym < 19, sym ∈ clOrder := by decide
  exact all sym h

/-- What reading the first lengths of the permutation order leaves is `headerLens` (R95). -/
theorem clFields_eq_headerLens (m : Memory) (p hclen : Nat) :
    clFields m p (clOrder.take hclen) (List.replicate Config.nCl 0) = headerLens m p hclen := by
  have size : (clFields m p (clOrder.take hclen) (List.replicate Config.nCl 0)).length = 19 := by
    rw [length_clFields, List.length_replicate]; rfl
  have nodup : (clOrder.take hclen).Nodup := List.Nodup.sublist (List.take_sublist ..) (by decide)
  refine List.ext_getElem (by rw [size, headerLens, List.length_map, List.length_range]) fun sym hs _ => ?_
  have inside : sym < 19 := size ▸ hs
  have field := getD_clFields m p nodup (lens := List.replicate Config.nCl 0) (sym := sym)
    (by rw [List.length_replicate]; exact inside)
  rw [← List.getD_eq_getElem _ 0 hs, field]
  simp only [headerLens, List.getElem_map, List.getElem_range, List.mem_take_iff_idxOf_lt (mem_clOrder inside)]
  split
  next h =>
    have there := (List.mem_take_iff_idxOf_lt (mem_clOrder inside)).mpr h
    conv_rhs => rw [← List.take_append_drop hclen clOrder, List.idxOf_append_of_mem there]
  next => rw [List.getD_replicate _ (by exact inside)]

theorem le_of_mem_headerLens {m : Memory} {p hclen l : Nat} (h : l ∈ headerLens m p hclen) : l ≤ 7 := by
  obtain ⟨sym, -, rfl⟩ := List.mem_map.mp h
  split
  · exact Nat.le_of_lt_succ (m.field_lt _ 3)
  · exact Nat.zero_le 7

/-! ## Dynamic headers -/

/-- The state in which the code-length table of a dynamic header is built. -/
def State.headerRead (lens : List Nat) (r : Reader) (s : State) : State := { s with br := r, lenCL := .of lens }

/-- The state in which a dynamic header's counts and code-length table are known. -/
def State.headerBuilt (hlit hdist : Nat) (cl : DecodeTable) (s : State) : State :=
  { s with dec := { s.dec with cl := cl, hdr := { hlit := hlit, hdist := hdist, lens := [] } } }

theorem dynamicHeader_reads {hlit hdist hclen : Nat} {s : State} (hl : hlit ≤ 286) (hd : hdist ≤ 30) (hc : hclen ≤ 19)
    (h : s.Reading) (ha : 3 * hclen ≤ s.avail) :
    ∃ r, s.Consumed (3 * hclen) { s with br := r } ∧
      dynamicHeader hlit hdist hclen s =
        (buildHeaderTable (headerLens s.inMem s.br.pos hclen)
            (s.headerRead (headerLens s.inMem s.br.pos hclen) r)).map fun x =>
          (x.2.headerBuilt hlit hdist x.1).goto .clSym := by
  have size : (clOrder.take hclen).length = hclen := by rw [List.length_take]; exact Nat.min_eq_left hc
  obtain ⟨r, read, taken⟩ := readClLengths_takes (order := clOrder.take hclen) (lens := List.replicate Config.nCl 0) h
    (by rwa [size])
  rw [size] at taken
  refine ⟨r, taken, ?_⟩
  rw [dynamicHeader, if_neg (Nat.not_lt.mpr hl), if_neg (Nat.not_lt.mpr hd), read, clFields_eq_headerLens]
  dsimp only [State.headerRead]
  cases buildHeaderTable (headerLens s.inMem s.br.pos hclen)
    { s with br := r, lenCL := .of (headerLens s.inMem s.br.pos hclen) } <;> rfl

/-- Settles O44: the counts, then the lengths; their table is built where they fit. -/
theorem dynamicHeaderBuildsTheCodeLengthTable : Obligations.DynamicHeaderBuildsTheCodeLengthTable := by
  intro s j ph hlit hdist hclen hs
  refine ⟨fun hl => .of_exec (t := s) ?_ rfl, fun hl hd => .of_exec (t := s) ?_ rfl, fun hl hd h ha => ?_⟩
  · rw [exec, execDynHdr, dynamicHeader, if_pos (by omega)]; rfl
  · rw [exec, execDynHdr, dynamicHeader, if_neg (by omega), if_pos (by omega)]; rfl
  · have count := hclen.isLt
    obtain ⟨r, taken, header⟩ := dynamicHeader_reads (hlit := hlit.toNat + 257) (hdist := hdist.toNat + 1)
      (hclen := hclen.toNat + 4) (by omega) (by omega) (by omega) h ha
    have fits := codesFit_iff (lens := headerLens s.inMem s.br.pos (hclen.toNat + 4)) fun _ => le_of_mem_headerLens
    intro lens
    refine ⟨fun sum => ?_, fun sum => .of_exec (t := s.headerRead lens r) ?_ rfl⟩
    · obtain ⟨t, c, built⟩ := htbBuild_isOk_iff.mpr (fits.mpr sum)
      let u : State := { s.headerRead lens r with htb := { code := c, bitLength := t.maxLen } }
      let v := u.headerBuilt (hlit.toNat + 257) (hdist.toNat + 1) t
      refine ⟨{ v with seq := .decode j .clSym }, ?_, taken.of_fields rfl rfl rfl rfl, built, rfl⟩
      rw [exec, execDynHdr, header, buildHeaderTable, buildTable, built]
      exact congrArg _ (goto_of_decode (s := v) hs .clSym)
    · rw [exec, execDynHdr, header, buildHeaderTable, buildTable]
      cases e : htbBuild lens with
      | ok x => exact absurd (fits.mp (htbBuild_isOk_iff.mp ⟨x.1, x.2, e⟩)) (Nat.not_le.mpr sum)
      | error i => rfl

end Sys2Proof.Machine
end

section
/-! PROOFS. The writer (R141, R142, R144): what a run of writes appends to W, what it fills of OUT, and what it leaves
unchanged; the packer's tokens (R235) and the stored blocks (R232) are read off it. -/

namespace Sys2Proof.Machine

/-! ## Bits -/

theorem msbBits_push (v n : Nat) (b : Bool) : msbBits (2 * v + b.toNat) (n + 1) = msbBits v n ++ [b] := by
  induction n with
  | zero => simp [msbBits, Nat.testBit_zero, Nat.add_mod]; cases b <;> rfl
  | succ n ih =>
    have high : (2 * v + b.toNat).testBit (n + 1) = v.testBit n := by
      rw [Nat.testBit_add_one]
      congr 1
      have := b.toNat_le
      omega
    rw [msbBits, ih, high, msbBits, List.cons_append]

/-- A bit shifted into a byte that has room for it. -/
theorem toNat_shiftIn {c : Byte} (room : c.toNat < 2 ^ 7) (bit : Bool) :
    ((c <<< 1) ||| BitVec.ofNat 8 bit.toNat).toNat = 2 * c.toNat + bit.toNat := by
  have shifted : (c <<< 1).toNat = 2 ^ 1 * c.toNat := by rw [BitVec.toNat_shiftLeft, Nat.shiftLeft_eq]; omega
  have low : (BitVec.ofNat 8 bit.toNat).toNat = bit.toNat := by cases bit <;> rfl
  rw [BitVec.toNat_or, shifted, low, ← Nat.two_pow_add_eq_or_of_lt (Bool.toNat_lt bit)]

/-- A value written reversed is written bit 0 first (R14, R142). -/
theorem msbBits_revBits (v n : Nat) : msbBits (revBits n v) n = lsbBits v n := by
  refine List.ext_getElem (by rw [length_msbBits, length_lsbBits]) fun i hi _ => ?_
  have below : i < n := by rwa [length_msbBits] at hi
  rw [getElem_msbBits, revBits_testBit n v _ (by omega), show n - 1 - (n - 1 - i) = i by omega]
  simp [lsbBits]

theorem byteBits_rev8 (b : Byte) : byteBits (rev8 b) = msbBits b.toNat 8 := by
  have := byteBits_padded b (n := 8) le_rfl
  rwa [Nat.sub_self, BitVec.shiftLeft_zero, List.replicate_zero, List.append_nil] at this

theorem byteBits_eq_lsbBits (b : Byte) : byteBits b = lsbBits b.toNat 8 := by
  simp [byteBits, lsbBits, BitVec.testBit_toNat]

/-- A byte sequence is known by its bits. -/
theorem bytesBits_injective {a b : List Byte} (h : bytesBits a = bytesBits b) : a = b := by
  induction a generalizing b with
  | nil =>
    have := congrArg List.length h
    rw [length_bytesBits, length_bytesBits] at this
    exact (List.length_eq_zero_iff.mp (by simpa using this.symm)).symm
  | cons x a ih =>
    cases b with
    | nil =>
      have := congrArg List.length h
      rw [length_bytesBits, length_bytesBits] at this
      simp at this
    | cons y b =>
      rw [bytesBits_cons, bytesBits_cons] at h
      obtain ⟨first, rest⟩ := List.append_inj h (by rw [length_byteBits, length_byteBits])
      have value := congrArg lsbValue first
      rw [lsbValue_byteBits, lsbValue_byteBits] at value
      rw [BitVec.eq_of_toNat_eq value, ih rest]

/-! ## Appending to W -/

namespace Writer

/-- From `w` to `w'` these bits have been appended to W: whole bytes go to OUT at the cursor, and nowhere else. -/
structure Wrote (w : Writer) (bits : List Bool) (w' : Writer) : Prop where
  bounded  : w'.bounded
  isOpen   : w'.isOpen = w.isOpen
  onward   : w.byteIndex ≤ w'.byteIndex
  appended : ∀ off ≤ w.byteIndex, w'.bits off = w.bits off ++ bits
  frame    : ∀ a, a < w.byteIndex ∨ w'.byteIndex ≤ a → w'.out.read a = w.out.read a
  filled   : ∀ a, w.byteIndex ≤ a → a < w'.byteIndex → (w'.out.read a).isSome = true

variable {w w' w'' : Writer} {a b : List Bool}

theorem Wrote.refl (h : w.bounded) : w.Wrote [] w :=
  ⟨h, rfl, le_rfl, fun _ _ => (List.append_nil _).symm, fun _ _ => rfl, fun _ _ _ => by omega⟩

theorem Wrote.trans (h : w.Wrote a w') (h' : w'.Wrote b w'') : w.Wrote (a ++ b) w'' where
  bounded := h'.bounded
  isOpen := h'.isOpen.trans h.isOpen
  onward := h.onward.trans h'.onward
  appended off below := by
    rw [h'.appended off (below.trans h.onward), h.appended off below, List.append_assoc]
  frame k outside := by
    have := h.onward
    have := h'.onward
    rw [h'.frame k (by omega), h.frame k (by omega)]
  filled k low high := by
    rcases Nat.lt_or_ge k w'.byteIndex with below | above
    · rw [h'.frame k (.inl below)]
      exact h.filled k low below
    · exact h'.filled k above high

theorem length_bits (off : Nat) (w : Writer) : (w.bits off).length = 8 * (w.byteIndex - off) + w.bitIndex := by
  simp [bits, length_msbBits, length_byteBits, Function.comp_def, Nat.mul_comm]

/-- W grows by as many bits as are appended. -/
theorem Wrote.count (h : w.Wrote a w') : 8 * w'.byteIndex + w'.bitIndex = 8 * w.byteIndex + w.bitIndex + a.length := by
  have length := congrArg List.length (h.appended w.byteIndex le_rfl)
  rw [List.length_append, length_bits, length_bits] at length
  have := h.onward
  omega

/-- A partial byte that takes more bits and is not yet full. -/
theorem Wrote.of_partial {n : Nat} {c : Byte} (h : ({ w with bitIndex := n, current := c } : Writer).bounded)
    (more : msbBits c.toNat n = msbBits w.current.toNat w.bitIndex ++ a) :
    w.Wrote a { w with bitIndex := n, current := c } :=
  ⟨h, rfl, le_rfl, fun off _ => by rw [bits, bits, more, List.append_assoc], fun _ _ => rfl,
    fun _ low high => absurd high (Nat.not_lt.mpr low)⟩

/-- A partial byte that becomes a whole one. -/
theorem Wrote.of_whole {c : Byte} (more : byteBits c = msbBits w.current.toNat w.bitIndex ++ a) :
    w.Wrote a { w with out := w.out.write w.byteIndex c, byteIndex := w.byteIndex + 1, bitIndex := 0, current := 0 } where
  bounded := ⟨Nat.zero_le 7, by simp⟩
  isOpen := rfl
  onward := Nat.le_succ _
  appended off below := by
    simp only [bits]
    rw [show w.byteIndex + 1 - off = w.byteIndex - off + 1 by omega, List.range_succ, List.map_append, List.flatten_append,
      List.map_singleton, List.flatten_singleton, show off + (w.byteIndex - off) = w.byteIndex by omega,
      Memory.read_write_same, Option.getD_some, more, msbBits, List.append_nil, List.append_assoc]
    congr 2
    refine List.map_congr_left fun k hk => ?_
    rw [Memory.read_write_other _ _ (by have := List.mem_range.mp hk; omega)]
  frame k outside := Memory.read_write_other _ _ (by simp only at outside; omega)
  filled k low high := by
    obtain rfl : k = w.byteIndex := by simp only at high; omega
    rw [Memory.read_write_same]; rfl

theorem pushBit_wrote (h : w.bounded) (bit : Bool) : w.Wrote [bit] (w.pushBit bit) := by
  have bounded := pushBit_bounded w bit h
  obtain ⟨index, small⟩ := h
  have value := toNat_shiftIn (small.trans_le (Nat.pow_le_pow_right (by decide) index)) bit
  have bits := msbBits_push w.current.toNat w.bitIndex bit
  rw [← value] at bits
  unfold pushBit at bounded ⊢
  dsimp only at bounded ⊢
  split at bounded
  next full =>
    rw [if_pos full]
    rw [full] at bits
    exact .of_whole ((byteBits_rev8 _).trans bits)
  next room =>
    rw [if_neg room]
    exact .of_partial bounded bits

theorem pushBits_wrote (h : w.bounded) (v n : Nat) : w.Wrote (msbBits v n) (w.pushBits v n) := by
  induction n generalizing w with
  | zero => exact .refl h
  | succ n ih =>
    have one := pushBit_wrote h (v.testBit n)
    exact one.trans (ih one.bounded)

/-- Padding appends fewer than eight zero bits (R144). -/
theorem flush_wrote (h : w.bounded) : ∃ pad < 8, w.Wrote (List.replicate pad false) w.flush := by
  by_cases whole : w.bitIndex = 0
  · exact ⟨0, by decide, by rw [flush_whole whole]; exact .refl h⟩
  · refine ⟨8 - w.bitIndex, by omega, ?_⟩
    rw [flush_partial whole]
    exact .of_whole (byteBits_padded _ (Nat.le_succ_of_le h.1))

end Writer

/-! ## BW.WRITE -/

/-- A field `v` of `n` bits that BW.WRITE takes is appended bit 0 first. -/
theorem bwWrite_wrote {v n : Nat} {s : State} (ho : s.bw.isOpen = true) (hb : s.bw.bounded) (hn : n ≤ 32) (hv : v < 2 ^ n) :
    ∃ w, bwWrite v n true s = .ok { s with bw := w } ∧ s.bw.Wrote (lsbBits v n) w := by
  refine ⟨_, bwWrite_ok ho hn hv, ?_⟩
  rw [if_pos rfl, ← msbBits_revBits]
  exact Writer.pushBits_wrote hb _ _

/-- The bits of a sequence of fields, each bit 0 first. -/
def fieldBits (fields : List (Nat × Nat)) : List Bool := (fields.map fun f => lsbBits f.1 f.2).flatten

theorem writeFields_wrote {fields : List (Nat × Nat)} {s : State} (ho : s.bw.isOpen = true) (hb : s.bw.bounded)
    (hf : ∀ f ∈ fields, f.2 ≤ 32 ∧ f.1 < 2 ^ f.2) :
    ∃ w, writeFields fields s = .ok { s with bw := w } ∧ s.bw.Wrote (fieldBits fields) w := by
  induction fields generalizing s with
  | nil => exact ⟨s.bw, rfl, .refl hb⟩
  | cons f fields ih =>
    obtain ⟨⟨hn, hv⟩, hf⟩ := List.forall_mem_cons.mp hf
    obtain ⟨w, first, hw⟩ := bwWrite_wrote ho hb hn hv
    obtain ⟨w', rest, hw'⟩ := ih (s := { s with bw := w }) (hw.isOpen.trans ho) hw.bounded hf
    exact ⟨w', by rw [writeFields, first]; exact rest, hw.trans hw'⟩

/-! ## BW.FINISH and the bytes returned (R140, R144) -/

theorem finishEncode_eq {s : State} (ho : s.bw.isOpen = true) :
    finishEncode s =
      answerDone (outBytes s.freeCtr s.bw.flush.out 0 s.bw.flush.byteIndex)
        { s with bw := { s.bw.flush with isOpen := false }, freeCtr := s.freeCtr + 1 } := by
  rw [finishEncode, bwFinish, if_pos ho]

theorem outBytes_add (ctr : Nat) (m : Memory) (a n k : Nat) :
    outBytes ctr m a (n + k) = outBytes ctr m a n ++ outBytes ctr m (a + n) k := by
  induction n generalizing a with
  | zero => rw [Nat.zero_add]; rfl
  | succ n ih => rw [show n + 1 + k = n + k + 1 by omega, outBytes, outBytes, ih, show a + 1 + n = a + (n + 1) by omega,
      List.cons_append]

/-- Where all the bytes are filled, those read are known by their bits. -/
theorem bytesBits_outBytes (ctr : Nat) (m : Memory) (a n : Nat) (h : ∀ k < n, (m.read (a + k)).isSome = true) :
    bytesBits (outBytes ctr m a n) = ((List.range n).map fun k => byteBits ((m.read (a + k)).getD 0)).flatten := by
  induction n generalizing a with
  | zero => rfl
  | succ n ih =>
    obtain ⟨b, hb⟩ := Option.isSome_iff_exists.mp (h 0 n.succ_pos)
    rw [Nat.add_zero] at hb
    rw [outBytes, bytesBits_cons, ih (a + 1) fun k hk => by
        rw [show a + 1 + k = a + (k + 1) by omega]; exact h (k + 1) (by omega),
      List.range_succ_eq_map, List.map_cons, List.flatten_cons, List.map_map]
    simp only [Nat.add_zero, hb, Option.getD_some]
    refine congrArg (byteBits b ++ List.flatten ·) (List.map_congr_left fun k _ => ?_)
    simp only [Function.comp_apply, Nat.succ_eq_add_one, show a + 1 + k = a + (k + 1) by omega]

/-- What a command that began with BW.INIT at `off` of the buffer `buf` returns after it has written `bits`, whole bytes:
the head of the buffer, then the bytes of those bits; OUT beyond them is the caller's. -/
theorem Writer.Wrote.returned {buf : List Byte} {off : Nat} {bits : List Bool} {w0 w : Writer} (h : w0.Wrote bits w)
    (out : w0.out = Memory.ofBytes 0 buf) (index : w0.byteIndex = off) (bit : w0.bitIndex = 0) (inside : off ≤ buf.length)
    (whole : w.bitIndex = 0) (ctr : Nat) :
    ∃ bs, outBytes ctr w.out 0 w.byteIndex = buf.take off ++ bs ∧ bytesBits bs = bits ∧
      w.byteIndex = off + bs.length ∧ ∀ a, a < off ∨ w.byteIndex ≤ a → w.out.read a = buf[a]? := by
  subst index
  have onward := h.onward
  have frame (a : Nat) (outside : a < w0.byteIndex ∨ w.byteIndex ≤ a) : w.out.read a = buf[a]? := by
    rw [h.frame a outside, out]
    simpa only [Nat.zero_add] using Memory.read_ofBytes 0 a buf
  have head : outBytes ctr w.out 0 w0.byteIndex = buf.take w0.byteIndex := by
    refine List.ext_getElem? fun k => ?_
    rcases Nat.lt_or_ge k w0.byteIndex with below | above
    · have byte := frame k (.inl below)
      rw [List.getElem?_eq_getElem (by omega)] at byte
      rw [getElem?_outBytes ctr below (by rwa [Nat.zero_add]), List.getElem?_take_of_lt below,
        List.getElem?_eq_getElem (by omega)]
    · rw [List.getElem?_eq_none (by rwa [length_outBytes]), List.getElem?_eq_none (by rw [List.length_take]; omega)]
  refine ⟨outBytes ctr w.out w0.byteIndex (w.byteIndex - w0.byteIndex), ?_, ?_, ?_, frame⟩
  · rw [← head, show w.byteIndex = w0.byteIndex + (w.byteIndex - w0.byteIndex) by omega, outBytes_add, Nat.zero_add,
      show w0.byteIndex + (w.byteIndex - w0.byteIndex) - w0.byteIndex = w.byteIndex - w0.byteIndex by omega]
  · rw [bytesBits_outBytes ctr w.out _ _ fun k hk => h.filled _ (by omega) (by omega)]
    have appended := h.appended w0.byteIndex le_rfl
    rw [Writer.bits, Writer.bits, whole, bit, Nat.sub_self] at appended
    simpa [msbBits] using appended
  · rw [length_outBytes]; omega

end Sys2Proof.Machine
end

section
/-! PROOFS. What the encoder writes: a token's code and extra fields (R235), a stored block (R232). -/

namespace Sys2Proof.Machine

/-! ## Tokens (R235) -/

/-- A symbol has a code that BW.WRITE takes. -/
def Coded (lens codes : Table) (k : Nat) : Prop :=
  lens.entries.getD k 0 ≠ 0 ∧ lens.entries.getD k 0 ≤ 15 ∧ codes.entries.getD k 0 < 2 ^ lens.entries.getD k 0

section
variable {s : State} (ho : s.bw.isOpen = true) (hb : s.bw.bounded)
include ho hb

theorem packSymbol_wrote {k : Nat} (hk : k ≤ 285) (hc : Coded s.lenLL s.codeLL k) :
    ∃ w, packSymbol k s = .ok { s with bw := w } ∧
      s.bw.Wrote (lsbBits (s.codeLL.entries.getD k 0) (s.lenLL.entries.getD k 0)) w := by
  obtain ⟨some, width, fits⟩ := hc
  rw [packSymbol, if_neg (Nat.not_lt.mpr hk), if_neg some]
  exact bwWrite_wrote ho hb (width.trans (by decide)) fits

theorem exec_tLit_wrote {b : Byte} (hc : Coded s.lenLL s.codeLL b.toNat) :
    ∃ w, exec (.tLit b) s = .next (advance 1 { s with bw := w }) ∧ s.bw.Wrote (Token.blockBits s (.lit b.toNat)) w := by
  obtain ⟨w, packed, wrote⟩ := packSymbol_wrote ho hb (by have := b.isLt; omega) hc
  exact ⟨w, by rw [exec, execTLit, packed]; rfl, wrote⟩

theorem exec_tEob_wrote (hc : Coded s.lenLL s.codeLL 256) :
    ∃ w, exec .tEob s = .next (finishEncode { s with bw := w }) ∧ s.bw.Wrote (Token.blockBits s .eob) w := by
  obtain ⟨w, packed, wrote⟩ := packSymbol_wrote ho hb (by decide) hc
  exact ⟨w, by rw [exec, execTEob, packed]; rfl, wrote⟩

theorem packMatch_wrote {t eb ev d deb dev : Nat} (hd : d ≤ 29) (heb : eb = lenExtra.getD (t - 257) 0) (hev : ev < 2 ^ eb)
    (hdeb : deb = distExtra.getD d 0) (hdev : dev < 2 ^ deb) (hc : Coded s.lenD s.codeD d) :
    ∃ w, packMatch t eb ev d deb dev s = .ok (advance 6 { s with bw := w }) ∧
      s.bw.Wrote (lsbBits ev eb ++ lsbBits (s.codeD.entries.getD d 0) (s.lenD.entries.getD d 0) ++ lsbBits dev deb) w := by
  obtain ⟨some, width, fits⟩ := hc
  have lenWidth : eb ≤ 5 := heb ▸ getD_le (by decide) _
  have distWidth : deb ≤ 13 := hdeb ▸ getD_le (by decide) _
  obtain ⟨u, first, hu⟩ := bwWrite_wrote ho hb (lenWidth.trans (by decide)) hev
  obtain ⟨v, code, hv⟩ := bwWrite_wrote (s := { s with bw := u }) (hu.isOpen.trans ho) hu.bounded
    (width.trans (by decide)) fits
  obtain ⟨w, last, hw⟩ := bwWrite_wrote (s := { s with bw := v }) (hv.isOpen.trans (hu.isOpen.trans ho)) hv.bounded
    (distWidth.trans (by decide)) hdev
  refine ⟨w, ?_, (hu.trans hv).trans hw⟩
  rw [packMatch, if_neg (by omega), if_neg (by omega), first]
  dsimp only at code ⊢
  rw [code]
  dsimp only
  rw [last]
  rfl

theorem exec_tMatch_wrote {lc : BitVec 8} {le lv dc de dv : Slot} (low : 1 ≤ lc.toNat) (high : lc.toNat ≤ 29)
    (hd : dc.toNat ≤ 29) (hle : le.toNat = lenExtra.getD (lc.toNat - 1) 0) (hlv : lv.toNat < 2 ^ le.toNat)
    (hde : de.toNat = distExtra.getD dc.toNat 0) (hdv : dv.toNat < 2 ^ de.toNat)
    (hc : Coded s.lenLL s.codeLL (256 + lc.toNat)) (hdc : Coded s.lenD s.codeD dc.toNat) :
    ∃ w, exec (.tMatch lc le lv dc de dv) s = .next (advance 6 { s with bw := w }) ∧
      s.bw.Wrote (Token.blockBits s (.copy (256 + lc.toNat) le.toNat lv.toNat dc.toNat de.toNat dv.toNat)) w := by
  obtain ⟨u, symbol, hu⟩ := packSymbol_wrote ho hb (k := 256 + lc.toNat) (by omega) hc
  obtain ⟨w, fields, hw⟩ := packMatch_wrote (s := { s with bw := u }) (t := 256 + lc.toNat) (hu.isOpen.trans ho) hu.bounded
    hd (by rw [hle, show 256 + lc.toNat - 257 = lc.toNat - 1 by omega]) hlv hde hdv hdc
  refine ⟨w, ?_, ?_⟩
  · rw [exec, execTMatch, symbol]
    dsimp only
    rw [fields]
    rfl
  · have all := hu.trans hw
    rw [← List.append_assoc, ← List.append_assoc] at all
    exact all

end

/-- Settles O40: what is packed is written, and the end marker's bits are padded. -/
theorem tokensArePacked : Obligations.TokensArePacked := by
  intro s ho hb
  refine ⟨fun b hc => ?_, fun hc => ?_, fun lc le lv dc de dv low high hd hle hlv hde hdv hc hdc => ?_⟩
  · obtain ⟨w, packed, wrote⟩ := exec_tLit_wrote ho hb hc
    exact ⟨_, packed, rfl, wrote.isOpen.trans ho, wrote.bounded, wrote.onward, wrote.appended, wrote.frame⟩
  · obtain ⟨w, packed, wrote⟩ := exec_tEob_wrote ho hb hc
    obtain ⟨pad, few, padded⟩ := w.flush_wrote wrote.bounded
    have all := wrote.trans padded
    rw [finishEncode_eq (s := { s with bw := w }) (wrote.isOpen.trans ho)] at packed
    refine ⟨_, _, pad, packed, rfl, rfl, w.flush_bitIndex, few,
      ⟨all.bounded, all.onward, all.appended, all.frame⟩, length_outBytes .., fun a b below filled => ?_⟩
    exact getElem?_outBytes _ below (by rwa [Nat.zero_add])
  · obtain ⟨w, packed, wrote⟩ := exec_tMatch_wrote ho hb low high hd hle hlv hde hdv hc hdc
    exact ⟨_, packed, rfl, wrote.isOpen.trans ho, wrote.bounded, wrote.onward, wrote.appended, wrote.frame⟩

/-! ## A stored block (R93, R232) -/

theorem lsbBits_add (v a b : Nat) : lsbBits v (a + b) = lsbBits v a ++ lsbBits (v / 2 ^ a) b := by
  simp only [lsbBits, List.range_add, List.map_append, List.map_map]
  refine congrArg (_ ++ ·) (List.map_congr_left fun i _ => ?_)
  rw [Function.comp_apply, Nat.testBit_div_two_pow, Nat.add_comm]

theorem byteBits_ofNat (v : Nat) : byteBits (BitVec.ofNat 8 v) = lsbBits v 8 := by
  rw [byteBits_eq_lsbBits, BitVec.toNat_ofNat]
  refine List.map_congr_left fun i hi => ?_
  rw [Nat.testBit_mod_two_pow, decide_eq_true (List.mem_range.mp hi), Bool.true_and]

theorem not_ofNat_eq {m : Nat} (ones : ∀ i < 8, m.testBit i = true) (v : Nat) :
    ~~~BitVec.ofNat 8 v = BitVec.ofNat 8 (v ^^^ m) := by
  refine BitVec.eq_of_getLsbD_eq fun i hi => ?_
  rw [BitVec.getLsbD_not, BitVec.getLsbD_ofNat, BitVec.getLsbD_ofNat, Nat.testBit_xor, ones i hi]
  simp [hi]

/-- LEN and NLEN are written as two 16-bit fields. -/
theorem bytesBits_storedLengths (n : Nat) :
    bytesBits (storedLengths n) = lsbBits n 16 ++ lsbBits (n ^^^ 0xFFFF) 16 := by
  have low : ~~~BitVec.ofNat 8 n = BitVec.ofNat 8 (n ^^^ 0xFFFF) := not_ofNat_eq (by decide) n
  have high : ~~~BitVec.ofNat 8 (n / 2 ^ 8) = BitVec.ofNat 8 ((n ^^^ 0xFFFF) / 2 ^ 8) := by
    rw [Nat.xor_div_two_pow]
    exact not_ofNat_eq (by decide) _
  rw [storedLengths, low, show n / 256 = n / 2 ^ 8 from rfl, high, lsbBits_add n 8 8, lsbBits_add (n ^^^ 0xFFFF) 8 8]
  simp only [bytesBits, List.map_cons, List.map_nil, List.flatten_cons, List.flatten_nil, byteBits_ofNat, List.append_nil,
    List.append_assoc]

theorem fieldBits_append (a b : List (Nat × Nat)) : fieldBits (a ++ b) = fieldBits a ++ fieldBits b := by
  simp [fieldBits]

/-- Bytes are written as 8-bit fields. -/
theorem fieldBits_bytes (bs : List Byte) : fieldBits (bs.map fun b => (b.toNat, 8)) = bytesBits bs := by
  simp only [fieldBits, bytesBits, List.map_map]
  exact congrArg _ (List.map_congr_left fun b _ => (byteBits_eq_lsbBits b).symm)

/-- The bytes of one stored block (R93). -/
def storedBytes (last : Bool) (chunk : List Byte) : List Byte :=
  BitVec.ofNat 8 last.toNat :: (storedLengths chunk.length ++ chunk)

theorem Writer.Wrote.whole {w w' : Writer} {bs : List Byte} (h : w.Wrote (bytesBits bs) w') (start : w.bitIndex = 0) :
    w'.bitIndex = 0 := by
  have count := h.count
  rw [length_bytesBits, start] at count
  have := h.bounded.1
  omega

/-- A stored block begun at a byte boundary is its bytes. -/
theorem storedBlock_wrote {last : Bool} {chunk : List Byte} {s : State} (ho : s.bw.isOpen = true) (hb : s.bw.bounded)
    (start : s.bw.bitIndex = 0) (hn : chunk.length ≤ 65535) :
    ∃ w, storedBlock last chunk s = .ok { s with bw := w } ∧ s.bw.Wrote (bytesBits (storedBytes last chunk)) w := by
  obtain ⟨u, header, hu⟩ := writeFields_wrote (fields := [(last.toNat, 1), (0, 2)]) ho hb (by cases last <;> decide)
  have three : u.bitIndex = 3 := by
    have count := hu.count
    have := hu.bounded.1
    rw [start, show (fieldBits [(last.toNat, 1), (0, 2)]).length = 3 by simp [fieldBits, length_lsbBits]] at count
    omega
  obtain ⟨w, body, hw⟩ := writeFields_wrote (s := { s with bw := u })
    (fields := [(0, (8 - u.bitIndex) % 8), (chunk.length, 16), (chunk.length ^^^ 0xFFFF, 16)] ++
      chunk.map fun b => (b.toNat, 8)) (hu.isOpen.trans ho) hu.bounded (by
    rw [three]
    have width : chunk.length < 2 ^ 16 := Nat.lt_succ_of_le hn
    simp only [List.mem_append, List.mem_cons, List.not_mem_nil, or_false, List.mem_map]
    rintro f ((rfl | rfl | rfl) | ⟨b, -, rfl⟩)
    · decide
    · exact ⟨(by decide : 16 ≤ 32), width⟩
    · exact ⟨(by decide : 16 ≤ 32), Nat.xor_lt_two_pow width (by decide : 65535 < 2 ^ 16)⟩
    · exact ⟨(by decide : 8 ≤ 32), b.isLt⟩)
  refine ⟨w, by rw [storedBlock, header]; exact body, ?_⟩
  have bits : bytesBits (storedBytes last chunk) = fieldBits [(last.toNat, 1), (0, 2)] ++
      fieldBits ([(0, (8 - u.bitIndex) % 8), (chunk.length, 16), (chunk.length ^^^ 0xFFFF, 16)] ++
        chunk.map fun b => (b.toNat, 8)) := by
    have first : lsbBits last.toNat 8 = lsbBits last.toNat 1 ++ lsbBits 0 2 ++ lsbBits 0 5 := by cases last <;> rfl
    rw [fieldBits_append, fieldBits_bytes, three, storedBytes, bytesBits_cons, bytesBits_append, bytesBits_storedLengths,
      byteBits_ofNat, first]
    simp [fieldBits]
  rw [bits]
  exact hu.trans hw

/-! ## The stored stream (R232) -/

/-- Once there is fuel for the whole input, more does not matter. -/
theorem storedStream_eq {k n : Nat} {data : List Byte} (hk : 0 < k) (kept : data.length ≤ 65535 * k) (hn : 0 < n)
    (kept' : data.length ≤ 65535 * n) : storedStream k data = storedStream n data := by
  induction k generalizing n data with
  | zero => cases hk
  | succ k ih =>
    obtain ⟨n, rfl⟩ := Nat.exists_eq_add_of_lt hn
    rw [Nat.zero_add] at kept' ⊢
    rw [storedStream, storedStream]
    split
    next => rfl
    next more =>
      have rest : (data.drop 65535).length = data.length - 65535 := List.length_drop
      rw [ih (n := n) (data := data.drop 65535) (by omega) (by omega) (by omega) (by omega)]

/-- The state after a stored stream. -/
def State.withStored (w : Writer) (n : Nat) (s : State) : State :=
  { s with bw := w, enc := { s.enc with chunkPos := s.enc.chunkPos + n } }

theorem storedBlocks_wrote {k : Nat} {data : List Byte} {s : State} (ho : s.bw.isOpen = true) (hb : s.bw.bounded)
    (start : s.bw.bitIndex = 0) (hk : 0 < k) (kept : data.length ≤ 65535 * k) :
    ∃ w, storedBlocks k data s = .ok (s.withStored w data.length) ∧ s.bw.Wrote (bytesBits (storedStream k data)) w := by
  induction k generalizing data s with
  | zero => cases hk
  | succ k ih =>
    have size : (data.take 65535).length = min 65535 data.length := List.length_take
    obtain ⟨u, block, hu⟩ := storedBlock_wrote (last := decide (data.length ≤ 65535)) (chunk := data.take 65535) ho hb start
      (by omega)
    rw [storedBlocks, storedStream, show Config.storedMax = 65535 from rfl, block]
    dsimp only
    by_cases last : data.length ≤ 65535
    · rw [if_pos (decide_eq_true last), if_pos last, List.take_of_length_le last]
      refine ⟨u, rfl, ?_⟩
      rw [decide_eq_true last, List.take_of_length_le last] at hu
      exact hu
    · have rest : (data.drop 65535).length = data.length - 65535 := List.length_drop
      rw [if_neg (by simpa using last), if_neg last]
      obtain ⟨w, blocks, hw⟩ := ih (data := data.drop 65535) (s := s.withStored u (data.take 65535).length)
        (hu.isOpen.trans ho) hu.bounded (hu.whole start) (by omega) (by omega)
      refine ⟨w, blocks.trans (congrArg _ ?_), ?_⟩
      · simp only [State.withStored, rest, size, show s.enc.chunkPos + min 65535 data.length + (data.length - 65535) =
          s.enc.chunkPos + data.length by omega]
      · have all := hu.trans hw
        rw [decide_eq_false last, ← bytesBits_append, storedBytes, size, show min 65535 data.length = 65535 by omega,
          List.cons_append] at all
        exact all

/-! ## Commands that return what they have written (R231) -/

theorem bwInit_bounded (s : State) : (bwInit s).bw.bounded := ⟨Nat.zero_le 7, Nat.one_pos⟩

/-- A command of ENC has written `bits` after BW.INIT: it pads them, returns the head of the buffer and their bytes, and
leaves OUT beyond them as the caller's. -/
theorem finishEncode_returns {s u : State} {bits : List Bool} (h : (bwInit s).bw.Wrote bits u.bw)
    (inside : s.cfg.outputOffset ≤ (s.cfg.outputBuffer.getD []).length) :
    ∃ (bs : List Byte) (pad : Nat) (w : Writer), pad < 8 ∧ bytesBits bs = bits ++ List.replicate pad false ∧
      finishEncode u = answerDone ((s.cfg.outputBuffer.getD []).take s.cfg.outputOffset ++ bs)
        { u with bw := w, freeCtr := u.freeCtr + 1 } ∧
      w.isOpen = false ∧ w.byteIndex = s.cfg.outputOffset + bs.length ∧
      ∀ a, a < s.cfg.outputOffset ∨ w.byteIndex ≤ a → w.out.read a = (s.cfg.outputBuffer.getD [])[a]? := by
  obtain ⟨pad, few, padded⟩ := u.bw.flush_wrote h.bounded
  obtain ⟨bs, bytes, shown, index, frame⟩ := (h.trans padded).returned rfl rfl rfl inside u.bw.flush_bitIndex u.freeCtr
  refine ⟨bs, pad, { u.bw.flush with isOpen := false }, few, shown, ?_, rfl, index, frame⟩
  rw [finishEncode_eq (h.isOpen.trans rfl), bytes]; rfl

theorem length_memory_bytes (m : Memory) : m.bytes.length = m.length := List.length_map ..

/-- Settles O37: the blocks are written one after another from a byte boundary, so there is nothing to pad. -/
theorem encStoredSplitsIntoBlocks : Obligations.EncStoredSplitsIntoBlocks := by
  refine ⟨rfl, fun s hf inside => ?_⟩
  have begun : exec .encStored s = conclude ((storedBlocks (s.inMem.bytes.length / 65535 + 1) s.inMem.bytes
      { bwInit (beginCommand true s) with enc := { s.enc with chunkPos := 0 } }).map finishEncode) := by
    rw [exec, execEncStored, framed_runs hf]; rfl
  obtain ⟨w, blocks, hw⟩ := storedBlocks_wrote (k := s.inMem.bytes.length / 65535 + 1) (data := s.inMem.bytes)
    (s := { bwInit (beginCommand true s) with enc := { s.enc with chunkPos := 0 } }) rfl (bwInit_bounded _) rfl
    (Nat.succ_pos _) (by omega)
  obtain ⟨bs, pad, w', few, shown, finish, closed, index, frame⟩ :=
    finishEncode_returns (s := beginCommand true s)
      (u := State.withStored w s.inMem.bytes.length { bwInit (beginCommand true s) with enc := { s.enc with chunkPos := 0 } })
      hw inside
  have none : pad = 0 := by
    have length := congrArg List.length shown
    rw [List.length_append, length_bytesBits, length_bytesBits, List.length_replicate] at length
    omega
  have stream : bs = stored s.inMem.bytes := by
    rw [none, List.replicate_zero, List.append_nil] at shown
    rw [bytesBits_injective shown, stored]
    exact storedStream_eq (Nat.succ_pos _) (by omega) (by omega) (by omega)
  rw [begun, blocks]
  subst stream
  refine ⟨_, congrArg _ finish, rfl, ?_, closed, index, frame, rfl⟩
  rw [← length_memory_bytes]
  exact Nat.zero_add _

end Sys2Proof.Machine
end

section
/-! PROOFS. The matcher (R170 to R185): what CHAIN holds at a position, what a search there finds, and the tokens a run
emits. -/

namespace Sys2Proof.Machine

/-! ## CHAIN (R69) -/

namespace Chain

/-- The keys of CHAIN rise (R69). -/
def Sorted (c : Chain) : Prop := c.Pairwise fun x y => x.1 < y.1

variable {c : Chain} {key k : Nat} {ps : List Nat}

theorem lookup_of_lt (h : ∀ x ∈ c, key < x.1) : c.lookup key = [] := by
  induction c with
  | nil => rfl
  | cons x c ih =>
    obtain ⟨first, rest⟩ := List.forall_mem_cons.mp h
    rw [lookup, if_neg (Nat.ne_of_gt first), ih rest]

theorem mem_put {x : Nat × List Nat} (h : x ∈ c.put key ps) : x.1 = key ∨ x ∈ c := by
  induction c with
  | nil =>
    rw [put] at h
    split at h
    · cases h
    · exact .inl (by rw [List.mem_singleton.mp h])
  | cons y c ih =>
    obtain ⟨k, qs⟩ := y
    rw [put] at h
    split_ifs at h with before empty same empty
    · exact .inr h
    · exact (List.mem_cons.mp h).imp_left fun e => by rw [e]
    · exact .inr (List.mem_cons_of_mem _ h)
    · exact (List.mem_cons.mp h).imp (fun e => by rw [e]) (List.mem_cons_of_mem _)
    · rcases List.mem_cons.mp h with rfl | h
      · exact .inr List.mem_cons_self
      · exact (ih h).imp_right (List.mem_cons_of_mem _)

theorem Sorted.put (h : c.Sorted) : (c.put key ps).Sorted := by
  induction c with
  | nil =>
    rw [Chain.put]
    split
    · exact h
    · exact List.pairwise_singleton ..
  | cons y c ih =>
    obtain ⟨k, qs⟩ := y
    have ⟨above, rest⟩ := List.pairwise_cons.mp h
    rw [Chain.put]
    split_ifs with before empty same empty
    · exact h
    · refine List.pairwise_cons.mpr ⟨fun x hx => ?_, h⟩
      rcases List.mem_cons.mp hx with rfl | hx
      · exact before
      · exact before.trans (above x hx)
    · exact rest
    · exact List.pairwise_cons.mpr ⟨fun x hx => same ▸ above x hx, rest⟩
    · refine List.pairwise_cons.mpr ⟨fun x hx => ?_, ih rest⟩
      rcases mem_put hx with e | hx
      · simp only at e ⊢; omega
      · exact above x hx

theorem lookup_put_same (h : c.Sorted) : (c.put key ps).lookup key = ps := by
  have none {d : Chain} (empty : ps.isEmpty = true) (above : ∀ x ∈ d, key < x.1) : d.lookup key = ps :=
    (lookup_of_lt above).trans (List.isEmpty_iff.mp empty).symm
  induction c with
  | nil =>
    rw [put]
    split
    next empty => exact none empty nofun
    next => rw [lookup, if_pos rfl]
  | cons y c ih =>
    obtain ⟨k, qs⟩ := y
    have ⟨above, rest⟩ := List.pairwise_cons.mp h
    rw [put]
    split_ifs with before empty same empty
    · refine none empty fun x hx => ?_
      rcases List.mem_cons.mp hx with rfl | hx
      · exact before
      · exact before.trans (above x hx)
    · rw [lookup, if_pos rfl]
    · exact none empty fun x hx => same ▸ above x hx
    · rw [lookup, if_pos rfl]
    · rw [lookup, if_neg same, ih rest]

theorem lookup_put_other (h : k ≠ key) : (c.put key ps).lookup k = c.lookup k := by
  induction c with
  | nil =>
    rw [put]
    split
    · rfl
    · exact if_neg h.symm
  | cons y c ih =>
    obtain ⟨k', qs⟩ := y
    rw [put]
    split_ifs with before empty same empty
    · rfl
    · rw [lookup, if_neg h.symm]
    · rw [lookup, if_neg (by rw [same]; exact h.symm)]
    · rw [lookup, lookup, if_neg h.symm, if_neg (by rw [same]; exact h.symm)]
    · rw [lookup, lookup, ih]

end Chain

/-! ## Keys (R173) -/

theorem keyOf_eq_some_iff {l : List Byte} {k : Nat} :
    keyOf l = some k ↔ ∃ a b c, l[0]? = some a ∧ l[1]? = some b ∧ l[2]? = some c ∧
      k = a.toNat * 2 ^ 16 + b.toNat * 2 ^ 8 + c.toNat := by
  match l with
  | [] | [_] | [_, _] => simp [keyOf]
  | a :: b :: c :: l => simp [keyOf, eq_comm]

/-- Two places have the same key where their first three bytes agree. -/
theorem keyOf_eq_iff {l l' : List Byte} {k : Nat} (h : keyOf l' = some k) :
    keyOf l = some k ↔ ∀ i < 3, l[i]? = l'[i]? := by
  obtain ⟨a, b, c, ha, hb, hc, rfl⟩ := keyOf_eq_some_iff.mp h
  refine ⟨fun same => ?_, fun agree => ?_⟩
  · obtain ⟨a', b', c', ha', hb', hc', e⟩ := keyOf_eq_some_iff.mp same
    have ra := a.isLt; have rb := b.isLt; have rc := c.isLt
    have ra' := a'.isLt; have rb' := b'.isLt; have rc' := c'.isLt
    obtain rfl : a = a' := BitVec.eq_of_toNat_eq (by omega)
    obtain rfl : b = b' := BitVec.eq_of_toNat_eq (by omega)
    obtain rfl : c = c' := BitVec.eq_of_toNat_eq (by omega)
    intro i hi
    interval_cases i
    · rw [ha, ha']
    · rw [hb, hb']
    · rw [hc, hc']
  · exact keyOf_eq_some_iff.mpr ⟨a, b, c, (agree 0 (by decide)).trans ha, (agree 1 (by decide)).trans hb,
      (agree 2 (by decide)).trans hc, rfl⟩

theorem keyOf_isSome_iff {l : List Byte} : (∃ k, keyOf l = some k) ↔ 3 ≤ l.length := by
  match l with
  | [] | [_] | [_, _] => simp [keyOf]
  | a :: b :: c :: l => simp [keyOf]

/-! ## How far two places agree (R176) -/

theorem le_agreeing_iff {n cap : Nat} {as bs : List Byte} :
    n ≤ agreeing cap as bs ↔ n ≤ cap ∧ n ≤ bs.length ∧ ∀ k < n, as[k]? = bs[k]? := by
  induction cap generalizing n as bs with
  | zero => simp only [agreeing]; exact ⟨fun h => ⟨h, by omega, fun k hk => by omega⟩, And.left⟩
  | succ cap ih =>
    cases n with
    | zero => simp
    | succ n =>
      match as, bs with
      | [], [] => simp [agreeing]
      | [], b :: bs =>
        simp only [agreeing, Nat.le_zero, Nat.succ_ne_zero, false_iff]
        exact fun ⟨_, _, h⟩ => nomatch h 0 n.succ_pos
      | a :: as, [] => simp [agreeing]
      | a :: as, b :: bs =>
        rw [agreeing]
        split
        next e =>
          subst e
          rw [Nat.add_le_add_iff_right, ih, List.length_cons, Nat.add_le_add_iff_right, Nat.add_le_add_iff_right]
          refine and_congr_right fun _ => and_congr_right fun _ => ⟨fun h k hk => ?_, fun h k hk => h (k + 1) (by omega)⟩
          cases k with
          | zero => rfl
          | succ k => exact h k (by omega)
        next e =>
          simp only [Nat.le_zero, Nat.succ_ne_zero, false_iff]
          exact fun ⟨_, _, h⟩ => e (Option.some.inj (h 0 n.succ_pos))

/-- How far the input from `c` on agrees with the input from `p` on. -/
def agreeAt (data : List Byte) (p c : Nat) : Nat := agreeing Config.maxMatch (data.drop c) (data.drop p)

theorem le_agreeAt_iff {data : List Byte} {p c n : Nat} (hp : p ≤ data.length) :
    n ≤ agreeAt data p c ↔ n ≤ 258 ∧ p + n ≤ data.length ∧ ∀ k < n, data[p + k]? = data[c + k]? := by
  have room : n ≤ (data.drop p).length ↔ p + n ≤ data.length := by rw [List.length_drop]; omega
  rw [agreeAt, le_agreeing_iff, room]
  refine and_congr_right fun _ => and_congr_right fun _ => forall₂_congr fun k _ => ?_
  rw [List.getElem?_drop, List.getElem?_drop, eq_comm]

theorem agreeAt_le (data : List Byte) (p c : Nat) : agreeAt data p c ≤ 258 :=
  (le_agreeing_iff.mp le_rfl).1

/-- An earlier position with the key of `p`, near enough. -/
def IsCandidate (data : List Byte) (p k c : Nat) : Prop :=
  c < p ∧ keyOf (data.drop c) = some k ∧ p - c ≤ 32768

/-- The matches at `p` are the candidates, as far as they agree. -/
theorem isMatch_iff {data : List Byte} {p k l d : Nat} (hk : keyOf (data.drop p) = some k) :
    IsMatch data p l d ↔ d ≤ p ∧ 3 ≤ l ∧ IsCandidate data p k (p - d) ∧ l ≤ agreeAt data p (p - d) := by
  have three := keyOf_isSome_iff.mp ⟨k, hk⟩
  rw [List.length_drop] at three
  have first (c : Nat) : keyOf (data.drop c) = some k ↔ ∀ i < 3, data[c + i]? = data[p + i]? := by
    rw [keyOf_eq_iff hk]
    exact forall₂_congr fun i _ => by rw [List.getElem?_drop, List.getElem?_drop]
  rw [le_agreeAt_iff (by omega), IsCandidate, first, IsMatch]
  constructor
  · rintro ⟨l3, l258, d1, dw, dp, room, agree⟩
    exact ⟨dp, l3, ⟨by omega, fun i hi => (agree i (by omega)).symm, by omega⟩, l258, room, agree⟩
  · rintro ⟨dp, l3, ⟨below, -, near⟩, l258, room, agree⟩
    exact ⟨l3, l258, by omega, by omega, dp, room, agree⟩

theorem IsCandidate.three_le {data : List Byte} {p k c : Nat} (h : IsCandidate data p k c)
    (hk : keyOf (data.drop p) = some k) : 3 ≤ agreeAt data p c := by
  have three := keyOf_isSome_iff.mp ⟨k, hk⟩
  rw [List.length_drop] at three
  refine (le_agreeAt_iff (by omega)).mpr ⟨by decide, by omega, fun i hi => ?_⟩
  have agree := (keyOf_eq_iff hk).mp h.2.1 i hi
  rw [List.getElem?_drop, List.getElem?_drop] at agree
  exact agree.symm

/-! ## The scan (R176, R177) -/

/-- The longest match of these positions, the nearest of that length. -/
def Finds (data : List Byte) (p : Nat) (cs : List Nat) (m : Candidate) : Prop :=
  ∃ c ∈ cs, m = { len := agreeAt data p c, dist := p - c } ∧
    ∀ c' ∈ cs, agreeAt data p c' < agreeAt data p c ∨ (agreeAt data p c' = agreeAt data p c ∧ c' ≤ c)

/-- A position behind those scanned replaces the best only if it agrees strictly longer. -/
theorem Finds.scanned {data : List Byte} {p c : Nat} {cs : List Nat} {m : Candidate} (h : Finds data p cs m)
    (behind : ∀ c' ∈ cs, c < c') :
    Finds data p (cs ++ [c])
      (if agreeAt data p c > m.len then { len := agreeAt data p c, dist := p - c } else m) := by
  obtain ⟨c0, mem, rfl, best⟩ := h
  dsimp only
  split
  next longer =>
    refine ⟨c, by simp, rfl, fun c' hc' => ?_⟩
    rcases List.mem_append.mp hc' with hc' | hc'
    · have := best c' hc'; omega
    · exact .inr ⟨by rw [List.mem_singleton.mp hc'], le_of_eq (List.mem_singleton.mp hc')⟩
  next shorter =>
    refine ⟨c0, List.mem_append_left _ mem, rfl, fun c' hc' => ?_⟩
    rcases List.mem_append.mp hc' with hc' | hc'
    · exact best c' hc'
    · rw [List.mem_singleton.mp hc']
      have := behind c0 mem
      omega

/-- Nothing is longer than the longest match there can be: the scan may stop there. -/
theorem Finds.stop {data : List Byte} {p : Nat} {cs more : List Nat} {m : Candidate} (h : Finds data p cs m)
    (full : m.len = 258) (behind : ∀ c' ∈ cs, ∀ c ∈ more, c < c') : Finds data p (cs ++ more) m := by
  obtain ⟨c0, mem, rfl, best⟩ := h
  refine ⟨c0, List.mem_append_left _ mem, rfl, fun c' hc' => ?_⟩
  rcases List.mem_append.mp hc' with hc' | hc'
  · exact best c' hc'
  · have := agreeAt_le data p c'
    have := behind c0 mem c' hc'
    simp only at full
    omega

theorem scan_finds {data : List Byte} {p : Nat} {cs more : List Nat} {m : Candidate} (h : Finds data p cs m)
    (falls : (cs ++ more).Pairwise (· > ·)) :
    ∃ m', scan data (data.drop p) p more (some m) = some m' ∧ Finds data p (cs ++ more) m' := by
  induction more generalizing cs m with
  | nil => exact ⟨m, rfl, by rwa [List.append_nil]⟩
  | cons c more ih =>
    have split : cs ++ c :: more = cs ++ [c] ++ more := by simp
    obtain ⟨-, -, behind⟩ := List.pairwise_append.mp falls
    rw [split] at falls
    obtain ⟨-, -, behind'⟩ := List.pairwise_append.mp falls
    have next := h.scanned (c := c) fun c' hc' => behind c' hc' c List.mem_cons_self
    rw [scan, split]
    rw [← apply_ite some]
    by_cases full : agreeAt data p c = 258
    · rw [if_pos (by exact full)]
      refine ⟨_, rfl, next.stop ?_ behind'⟩
      split
      next => exact full
      next shorter =>
        obtain ⟨c0, -, rfl, -⟩ := h
        have := agreeAt_le data p c0
        simp only at shorter ⊢
        omega
    · rw [if_neg (by exact full)]
      exact ih next falls

/-- A search over rising positions (R176). -/
theorem search_finds {data : List Byte} {p : Nat} {cs : List Nat} (rises : cs.Pairwise (· < ·)) (some_ : cs ≠ []) :
    ∃ m, search data (data.drop p) p cs = some m ∧ Finds data p cs m := by
  have falls := List.pairwise_reverse.mpr rises
  have mem {m : Candidate} (h : Finds data p cs.reverse m) : Finds data p cs m := by
    obtain ⟨c, hc, e, best⟩ := h
    exact ⟨c, List.mem_reverse.mp hc, e, fun c' hc' => best c' (List.mem_reverse.mpr hc')⟩
  rw [search]
  cases e : cs.reverse with
  | nil => exact absurd (List.reverse_eq_nil_iff.mp e) some_
  | cons c more =>
    rw [e] at falls mem
    have first : Finds data p [c] { len := agreeAt data p c, dist := p - c } :=
      ⟨c, List.mem_singleton_self c, rfl, fun c' hc' => by rw [List.mem_singleton.mp hc']; exact .inr ⟨rfl, le_rfl⟩⟩
    rw [scan]
    by_cases full : agreeAt data p c = 258
    · rw [if_pos (by exact full)]
      exact ⟨_, rfl, mem (first.stop full (List.pairwise_append.mp (show ([c] ++ more).Pairwise _ from falls)).2.2)⟩
    · rw [if_neg (by exact full)]
      obtain ⟨m, found, hm⟩ := scan_finds first falls
      exact ⟨m, found, mem hm⟩

end Sys2Proof.Machine
end

section
/-! PROOFS. The run of the matcher (R172): CHAIN holds the candidates, a search finds the best match, and the tokens emitted
are the ones chosen. -/

namespace Sys2Proof.Machine

/-! ## What CHAIN holds at a position (R174, R175) -/

/-- Before position `p` CHAIN holds, at each key, earlier positions of that key in rising order, all the near ones among
them. -/
structure Chain.Holds (data : List Byte) (p : Nat) (c : Chain) : Prop where
  sorted : c.Sorted
  rises  : ∀ k, (c.lookup k).Pairwise (· < ·)
  placed : ∀ k x, x ∈ c.lookup k → x < p ∧ keyOf (data.drop x) = some k
  near   : ∀ k x, IsCandidate data p k x → x ∈ c.lookup k

/-- A candidate of the next position is one of this position, or this position itself. -/
theorem IsCandidate.of_succ {data : List Byte} {p k x : Nat} (h : IsCandidate data (p + 1) k x) :
    IsCandidate data p k x ∨ x = p := by
  obtain ⟨below, key, near⟩ := h
  rcases Nat.lt_succ_iff_lt_or_eq.mp below with below | rfl
  · exact .inl ⟨below, key, by omega⟩
  · exact .inr rfl

/-- Of rising positions, those too far back stand in front. -/
theorem mem_evicted {p : Nat} {ps : List Nat} (rises : ps.Pairwise (· < ·)) {x : Nat} :
    x ∈ ps.dropWhile (fun front => decide (p - front > Config.window)) ↔ x ∈ ps ∧ p - x ≤ 32768 := by
  induction ps with
  | nil => simp
  | cons y ps ih =>
    obtain ⟨above, rises⟩ := List.pairwise_cons.mp rises
    rw [List.dropWhile_cons]
    split
    next far =>
      have far : p - y > 32768 := of_decide_eq_true far
      rw [ih rises, List.mem_cons]
      exact and_congr_left fun near => ⟨.inr, fun h => h.resolve_left fun e => by subst e; omega⟩
    next near =>
      have near : ¬p - y > 32768 := fun far => near (decide_eq_true far)
      refine ⟨fun hx => ⟨hx, ?_⟩, And.left⟩
      rcases List.mem_cons.mp hx with rfl | hx
      · omega
      · have := above x hx; omega

namespace Chain.Holds

variable {data : List Byte} {p k : Nat} {c : Chain}

theorem start (data : List Byte) : Chain.Holds data 0 [] :=
  ⟨.nil, fun _ => .nil, fun _ _ h => (by cases h), fun _ _ ⟨below, _⟩ => absurd below (Nat.not_lt_zero _)⟩

/-- CHAIN with another sequence at one key. -/
theorem put {q : Nat} {ps : List Nat} (h : Chain.Holds data p c) (later : p ≤ q) (rises : ps.Pairwise (· < ·))
    (placed : ∀ x ∈ ps, x < q ∧ keyOf (data.drop x) = some k) (near : ∀ x, IsCandidate data q k x → x ∈ ps)
    (others : ∀ k', k' ≠ k → ∀ x, IsCandidate data q k' x → IsCandidate data p k' x) :
    Chain.Holds data q (c.put k ps) where
  sorted := h.sorted.put
  rises k' := by
    rcases eq_or_ne k' k with rfl | other
    · rwa [lookup_put_same h.sorted]
    · rw [lookup_put_other other]; exact h.rises k'
  placed k' x hx := by
    rcases eq_or_ne k' k with rfl | other
    · rw [lookup_put_same h.sorted] at hx; exact placed x hx
    · rw [lookup_put_other other] at hx
      exact (h.placed k' x hx).imp_left (·.trans_le later)
  near k' x hx := by
    rcases eq_or_ne k' k with rfl | other
    · rw [lookup_put_same h.sorted]; exact near x hx
    · rw [lookup_put_other other]; exact h.near k' x (others k' other x hx)

/-- Entering the position (R174). -/
theorem append (h : Chain.Holds data p c) (hk : keyOf (data.drop p) = some k) :
    Chain.Holds data (p + 1) (c.append k p) := by
  refine h.put (Nat.le_succ p) ?_ (fun x hx => ?_) (fun x hx => ?_) fun k' other x hx => ?_
  · refine List.pairwise_append.mpr ⟨h.rises k, List.pairwise_singleton .., fun x hx y hy => ?_⟩
    rw [List.mem_singleton.mp hy]
    exact (h.placed k x hx).1
  · rcases List.mem_append.mp hx with hx | hx
    · exact (h.placed k x hx).imp_left (·.trans (Nat.lt_succ_self p))
    · rw [List.mem_singleton.mp hx]; exact ⟨Nat.lt_succ_self p, hk⟩
  · rcases hx.of_succ with hx | rfl
    · exact List.mem_append_left _ (h.near k x hx)
    · exact List.mem_append_right _ (List.mem_singleton_self x)
  · rcases hx.of_succ with hx | rfl
    · exact hx
    · have key := hx.2.1
      rw [hk] at key
      exact absurd (Option.some.inj key).symm other

/-- A position without a key is not entered. -/
theorem keep (h : Chain.Holds data p c) (hk : keyOf (data.drop p) = none) : Chain.Holds data (p + 1) c where
  sorted := h.sorted
  rises := h.rises
  placed k x hx := (h.placed k x hx).imp_left (·.trans (Nat.lt_succ_self p))
  near k x hx := by
    rcases hx.of_succ with hx | rfl
    · exact h.near k x hx
    · have key := hx.2.1
      rw [hk] at key
      cases key

/-- After the eviction the sequence at the key is that of the candidates (R175). -/
theorem evictFront (h : Chain.Holds data p c) :
    Chain.Holds data p (c.evictFront k p) ∧ ∀ x, x ∈ (c.evictFront k p).lookup k ↔ IsCandidate data p k x := by
  have mem (x : Nat) := mem_evicted (p := p) (h.rises k) (x := x)
  refine ⟨h.put le_rfl ((h.rises k).sublist (List.dropWhile_sublist _)) (fun x hx => h.placed k x ((mem x).mp hx).1)
    (fun x hx => (mem x).mpr ⟨h.near k x hx, hx.2.2⟩) fun _ _ _ => id, fun x => ?_⟩
  rw [Chain.evictFront, lookup_put_same h.sorted, mem x]
  exact ⟨fun ⟨hx, near⟩ => ⟨(h.placed k x hx).1, (h.placed k x hx).2, near⟩, fun hx => ⟨h.near k x hx, hx.2.2⟩⟩

end Chain.Holds

/-! ## What is found (R176) -/

/-- What a search at `p` answers: nothing where there is no match, else the best one. -/
def Found (data : List Byte) (p : Nat) : Option Candidate → Prop
  | none => ∀ l d, ¬IsMatch data p l d
  | some m => BestMatch data p m.len m.dist

theorem Finds.bestMatch {data : List Byte} {p k : Nat} {cs : List Nat} {m : Candidate}
    (hk : keyOf (data.drop p) = some k) (hc : ∀ x, x ∈ cs ↔ IsCandidate data p k x) (h : Finds data p cs m) :
    BestMatch data p m.len m.dist := by
  obtain ⟨c, mem, rfl, best⟩ := h
  have cand := (hc c).mp mem
  have back : p - (p - c) = c := by have := cand.1; omega
  refine ⟨(isMatch_iff hk).mpr ⟨Nat.sub_le p c, cand.three_le hk, by rwa [back], by rw [back]⟩, fun l d other => ?_⟩
  obtain ⟨within, -, cand', agrees⟩ := (isMatch_iff hk).mp other
  have := best _ ((hc _).mpr cand')
  have := cand'.1
  dsimp only
  omega

/-- Where there are fewer than three bytes there is no match. -/
theorem not_isMatch_of_keyOf {data : List Byte} {p : Nat} (h : keyOf (data.drop p) = none) (l d : Nat) :
    ¬IsMatch data p l d := by
  rintro ⟨three, -, -, -, -, room, -⟩
  obtain ⟨k, hk⟩ := (keyOf_isSome_iff (l := data.drop p)).mpr (by rw [List.length_drop]; omega)
  rw [h] at hk
  cases hk

/-- The eviction and the search of a position (R175, R176) change CHAIN only. -/
theorem Run.find_found {data : List Byte} {r : Run} (h : r.chain.Holds data r.reg.pos) :
    ∃ cur c, r.find data (data.drop r.reg.pos) = (cur, { r with chain := c }) ∧ Found data r.reg.pos cur ∧
      c.Holds data r.reg.pos := by
  rw [Run.find]
  cases hk : keyOf (data.drop r.reg.pos) with
  | none => exact ⟨none, r.chain, rfl, not_isMatch_of_keyOf hk, h⟩
  | some k =>
    obtain ⟨holds, candidates⟩ := h.evictFront (k := k)
    refine ⟨_, r.chain.evictFront k r.reg.pos, rfl, ?_, holds⟩
    dsimp only
    split
    next empty =>
      intro l d other
      obtain ⟨-, -, cand, -⟩ := (isMatch_iff hk).mp other
      have mem := (candidates _).mpr cand
      rw [List.isEmpty_iff.mp empty] at mem
      cases mem
    next some_ =>
      obtain ⟨m, found, hm⟩ := search_finds (data := data) (p := r.reg.pos) (holds.rises k) fun e => some_ (by rw [e]; rfl)
      rw [found]
      exact hm.bestMatch hk candidates

/-! ## What is emitted (R182 to R184) -/

/-- The literal/length symbol of a token. -/
def Token.symbol : Token → Nat
  | .lit b => b
  | .eob => 256
  | .copy lc .. => lc

/-- The emission of a token, counted (R182 to R184). -/
def Token.countLL (freq : List Nat) (t : Token) : List Nat := count t.symbol freq

/-- The emission of a match's distance, counted (R184). -/
def Token.countD (freq : List Nat) : Token → List Nat
  | .copy _ _ _ dc _ _ => count dc freq
  | _ => freq

/-- From `r` to `r'` these tokens have been emitted. -/
structure Run.Emits (r : Run) (toks : List Token) (r' : Run) : Prop where
  tok    : r'.tok = r.tok ++ (toks.map Token.slots).flatten
  freqLL : r'.freqLL = toks.foldl Token.countLL r.freqLL
  freqD  : r'.freqD = toks.foldl Token.countD r.freqD

namespace Run.Emits

variable {r r' r'' : Run} {a b : List Token}

theorem nothing (tok : r'.tok = r.tok) (freqLL : r'.freqLL = r.freqLL) (freqD : r'.freqD = r.freqD) : r.Emits [] r' :=
  ⟨by simp [tok], freqLL, freqD⟩

theorem trans (h : r.Emits a r') (h' : r'.Emits b r'') : r.Emits (a ++ b) r'' where
  tok := by rw [h'.tok, h.tok]; simp
  freqLL := by rw [h'.freqLL, h.freqLL, List.foldl_append]
  freqD := by rw [h'.freqD, h.freqD, List.foldl_append]

theorem literal (b : Byte) (r : Run) : r.Emits [.lit b.toNat] (r.emitLiteral b) :=
  ⟨by simp [Run.emitLiteral, Token.slots, slots], rfl, rfl⟩

theorem copy (l d : Nat) (r : Run) : r.Emits [.ofMatch l d] (r.emitMatch l d) :=
  ⟨by simp [Run.emitMatch, Token.ofMatch, Token.slots, slots], rfl, rfl⟩

theorem marker (r : Run) : r.Emits [.eob] r.emitEob :=
  ⟨by simp [Run.emitEob, Token.slots, slots], rfl, rfl⟩

/-- The registers and CHAIN are not what a run emits. -/
theorem besides (h : r.Emits a r') (tok : r''.tok = r'.tok := by rfl) (freqLL : r''.freqLL = r'.freqLL := by rfl)
    (freqD : r''.freqD = r'.freqD := by rfl) : r.Emits a r'' :=
  ⟨tok.trans h.tok, freqLL.trans h.freqLL, freqD.trans h.freqD⟩

end Run.Emits

/-! ## The loop (R172) -/

/-- Where the loop stands, and from where the tokens still to be emitted stand for the input: the bytes skipped are behind
a token already, a match deferred is still to come (R172, R180). -/
inductive Run.Stands (data : List Byte) (r : Run) : Nat → Prop
  | free (within : r.reg.pos + r.reg.skip ≤ data.length) (clear : r.reg.prevValid = false) :
      Run.Stands data r (r.reg.pos + r.reg.skip)
  | deferred {p : Nat} (at_ : r.reg.pos = p + 1) (skip : r.reg.skip = 0) (valid : r.reg.prevValid = true)
      (best : BestMatch data p r.reg.prevLen r.reg.prevDist) (short : r.reg.prevLen < r.reg.lazy) :
      Run.Stands data r p

namespace Run

variable {data : List Byte} {r : Run} {before byte : Byte} {cur : Option Candidate} {m : Candidate}

theorem choose_literal (clear : r.reg.prevValid = false) : r.choose before byte none = r.emitLiteral byte := by
  simp [choose, clear]

theorem choose_defer (clear : r.reg.prevValid = false) (short : m.len < r.reg.lazy) :
    r.choose before byte (some m) =
      { r with reg := { r.reg with prevLen := m.len, prevDist := m.dist, prevValid := true } } := by
  simp [choose, clear, short]

/-- The state after a match, the bytes still to be skipped among its registers. -/
def withMatch (skip : Nat) (r : Run) : Run := { r with reg := { r.reg with skip := skip, prevValid := false } }

theorem choose_take (clear : r.reg.prevValid = false) (long : r.reg.lazy ≤ m.len) :
    r.choose before byte (some m) = (r.emitMatch m.len m.dist).withMatch (m.len - 1) := by
  simp [choose, clear, Nat.not_lt.mpr long, withMatch, emitMatch]

theorem choose_overtake (valid : r.reg.prevValid = true) (longer : r.reg.prevLen < m.len) :
    r.choose before byte (some m) = ((r.emitLiteral before).emitMatch m.len m.dist).withMatch (m.len - 1) := by
  simp [choose, valid, longer, withMatch]

theorem choose_commit (valid : r.reg.prevValid = true) (none_ : ∀ m, cur = some m → m.len ≤ r.reg.prevLen) :
    r.choose before byte cur = (r.emitMatch r.reg.prevLen r.reg.prevDist).withMatch (r.reg.prevLen - 2) := by
  unfold choose
  rw [if_pos valid]
  cases cur with
  | none => rfl
  | some m => exact if_neg (Nat.not_lt.mpr (none_ m rfl))

/-- From `r` to `r'` tokens have been emitted that are chosen from `q` on, and `r'` stands at the position after them. -/
def Moves (data : List Byte) (q : Nat) (r r' : Run) : Prop :=
  ∃ body q', r.Emits body r' ∧ r'.Stands data q' ∧ r'.reg.lazy = r.reg.lazy ∧
    ∀ rest, Token.Chosen data r.reg.lazy q' rest → Token.Chosen data r.reg.lazy q (body ++ rest)

/-- The next position. -/
def next (r : Run) : Run := { r with reg := { r.reg with pos := r.reg.pos + 1 } }

theorem Emits.next {toks : List Token} {r r' : Run} (h : r.Emits toks r') : r.Emits toks r'.next := h.besides

theorem Emits.skipping {skip : Nat} {toks : List Token} {r r' : Run} (h : r.Emits toks r') :
    r.Emits toks (r'.withMatch skip).next := h.besides

theorem Stands.of_match {skip : Nat} {r : Run} (within : r.reg.pos + 1 + skip ≤ data.length) :
    (r.withMatch skip).next.Stands data (r.reg.pos + 1 + skip) :=
  .free (r := (r.withMatch skip).next) within rfl

/-- What is emitted at a position that is not skipped. -/
theorem choose_moves {q : Nat} (h : r.Stands data q) (skip : r.reg.skip = 0) (here : data[r.reg.pos]? = some byte)
    (there : ∀ p, r.reg.pos = p + 1 → data[p]? = some before) (found : Found data r.reg.pos cur) :
    Moves data q r (r.choose before byte cur).next := by
  have inside : r.reg.pos < data.length := (List.getElem?_eq_some_iff.mp here).1
  cases h with
  | free within clear =>
    rw [skip, Nat.add_zero]
    cases cur with
    | none =>
      rw [choose_literal clear]
      exact ⟨_, _, (Emits.literal byte r).next, .free (r := (r.emitLiteral byte).next) (by
          change r.reg.pos + 1 + r.reg.skip ≤ _; omega) clear, rfl, fun rest more => .literal here found (by
        simpa [Run.next, emitLiteral, skip] using more)⟩
    | some m =>
      by_cases short : m.len < r.reg.lazy
      · rw [choose_defer clear short]
        exact ⟨[], _, .nothing rfl rfl rfl, .deferred rfl skip rfl found short, rfl, fun _ more => more⟩
      · rw [choose_take clear (Nat.not_lt.mp short)]
        obtain ⟨three, -, -, -, -, room, -⟩ := found.1
        exact ⟨[.ofMatch m.len m.dist], _, (Emits.copy ..).skipping,
          .of_match (by change r.reg.pos + 1 + (m.len - 1) ≤ _; omega), rfl, fun rest more => .taken found (Nat.not_lt.mp short) (by
            have e : r.reg.pos + 1 + (m.len - 1) = r.reg.pos + m.len := by omega
            exact e ▸ more)⟩
  | deferred at_ skip valid best short =>
    obtain ⟨three, -, -, -, -, room, -⟩ := best.1
    by_cases overtaken : ∃ m, cur = some m ∧ r.reg.prevLen < m.len
    · obtain ⟨m, rfl, longer⟩ := overtaken
      rw [choose_overtake valid longer]
      obtain ⟨-, -, -, -, -, room, -⟩ := found.1
      exact ⟨[.lit before.toNat, .ofMatch m.len m.dist], _, ((Emits.literal before r).trans (.copy ..)).skipping,
        .of_match (by change r.reg.pos + 1 + (m.len - 1) ≤ _; omega), rfl,
        fun rest more => .overtaken best short (there q at_) (at_ ▸ found) longer (by
          have e : r.reg.pos + 1 + (m.len - 1) = q + 1 + m.len := by omega
          exact e ▸ more)⟩
    · have none_ (m : Candidate) (e : cur = some m) : m.len ≤ r.reg.prevLen :=
        Nat.not_lt.mp fun longer => overtaken ⟨m, e, longer⟩
      rw [choose_commit valid none_]
      have next (l d : Nat) (other : IsMatch data (q + 1) l d) : l ≤ r.reg.prevLen := by
        rw [← at_] at other
        cases cur with
        | none => exact absurd other (found l d)
        | some m =>
          have := none_ m rfl
          have := found.2 l d other
          omega
      exact ⟨[.ofMatch r.reg.prevLen r.reg.prevDist], _, (Emits.copy ..).skipping,
        .of_match (by change r.reg.pos + 1 + (r.reg.prevLen - 2) ≤ _; omega), rfl,
        fun rest more => .committed best short next (by
          have e : r.reg.pos + 1 + (r.reg.prevLen - 2) = q + r.reg.prevLen := by omega
          exact e ▸ more)⟩

end Run

end Sys2Proof.Machine
end

section
/-! PROOFS. LZM.RUN as a whole (R172, R185): the tokens chosen, their ranges, and the input they stand for. -/

namespace Sys2Proof.Machine

namespace Run

variable {data : List Byte} {r : Run} {before byte : Byte}

theorem choose_keeps (before byte : Byte) (cur : Option Candidate) (r : Run) :
    (r.choose before byte cur).chain = r.chain ∧ (r.choose before byte cur).reg.pos = r.reg.pos := by
  unfold choose
  split <;> cases cur <;> dsimp only
  · exact ⟨rfl, rfl⟩
  · split <;> exact ⟨rfl, rfl⟩
  · exact ⟨rfl, rfl⟩
  · split <;> exact ⟨rfl, rfl⟩

/-- What entering a position leaves of a move. -/
theorem Moves.enter {q : Nat} {r r' : Run} {key : Option Nat} (h : Moves data q r r'.next) :
    Moves data q r (r'.enter key).next := by
  obtain ⟨body, q', emits, stands, lazy, chosen⟩ := h
  cases key with
  | none => exact ⟨body, q', emits, stands, lazy, chosen⟩
  | some k =>
    refine ⟨body, q', emits.besides, ?_, lazy, chosen⟩
    cases stands with
    | free within clear => exact .free (r := (r'.enter (some k)).next) within clear
    | deferred at_ skip valid best short => exact .deferred at_ skip valid best short

theorem enter_holds {c : Chain} (h : c.Holds data r.reg.pos) (hc : r.chain = c) :
    (r.enter (keyOf (data.drop r.reg.pos))).chain.Holds data (r.reg.pos + 1) := by
  subst hc
  cases hk : keyOf (data.drop r.reg.pos) with
  | none => exact h.keep hk
  | some k => exact h.append hk

theorem enter_pos (key : Option Nat) (r : Run) : (r.enter key).reg.pos = r.reg.pos := by cases key <;> rfl

/-- One iteration of the loop (R172). -/
theorem position_moves {q : Nat} (h : r.Stands data q) (holds : r.chain.Holds data r.reg.pos)
    (here : data[r.reg.pos]? = some byte) (there : ∀ p, r.reg.pos = p + 1 → data[p]? = some before) :
    Moves data q r (r.position data before byte (data.drop r.reg.pos)).next ∧
      (r.position data before byte (data.drop r.reg.pos)).chain.Holds data (r.reg.pos + 1) ∧
      (r.position data before byte (data.drop r.reg.pos)).reg.pos = r.reg.pos := by
  rw [position]
  split
  next skips =>
    refine ⟨Moves.enter ⟨[], q, .nothing rfl rfl rfl, ?_, rfl, fun _ more => more⟩,
      enter_holds (r := { r with reg := { r.reg with skip := r.reg.skip - 1 } }) holds rfl, enter_pos ..⟩
    cases h with
    | free within clear =>
      have e : r.reg.pos + r.reg.skip = r.reg.pos + 1 + (r.reg.skip - 1) := by omega
      rw [e] at within ⊢
      exact .free (r := Run.next { r with reg := { r.reg with skip := r.reg.skip - 1 } }) within clear
    | deferred at_ skip => omega
  next free =>
    obtain ⟨cur, c, found, best, holds⟩ := find_found holds
    have stands : Stands data { r with chain := c } q := by
      cases h with
      | free within clear => exact .free (r := { r with chain := c }) within clear
      | deferred at_ skip valid best short => exact .deferred at_ skip valid best short
    obtain ⟨body, q', emits, rest⟩ := choose_moves stands (Nat.eq_zero_of_not_pos free) here there best
    obtain ⟨chain, pos⟩ := choose_keeps before byte cur { r with chain := c }
    rw [found]
    refine ⟨Moves.enter ⟨body, q', ⟨emits.tok, emits.freqLL, emits.freqD⟩, rest⟩, ?_, (enter_pos ..).trans pos⟩
    have held := enter_holds (data := data) (r := choose before byte cur { r with chain := c }) (c := c) (by rwa [pos]) chain
    rwa [pos] at held

theorem Emits.loop {rest : List Byte} {q : Nat} (h : r.Stands data q) (holds : r.chain.Holds data r.reg.pos)
    (left : data.drop r.reg.pos = rest) (there : ∀ p, r.reg.pos = p + 1 → data[p]? = some before) :
    ∃ body, r.Emits body (r.loop data before rest) ∧ Token.Chosen data r.reg.lazy q body := by
  induction rest generalizing r before q with
  | nil =>
    have past : data.length ≤ r.reg.pos := List.drop_eq_nil_iff.mp left
    refine ⟨[], .nothing rfl rfl rfl, ?_⟩
    cases h with
    | free within clear =>
      rw [show r.reg.pos + r.reg.skip = data.length by omega]
      exact .finish
    | deferred at_ skip valid best short =>
      obtain ⟨three, -, -, -, -, room, -⟩ := best.1
      omega
  | cons byte rest ih =>
    have here : data[r.reg.pos]? = some byte := by
      have first := List.getElem?_drop (xs := data) (i := r.reg.pos) (j := 0)
      rw [left] at first
      exact first.symm
    obtain ⟨⟨body, q', emits, stands, lazy, chosen⟩, held, pos⟩ := position_moves h holds here there
    rw [left] at emits stands lazy held pos
    obtain ⟨body', emits', chosen'⟩ := ih (r := (r.position data before byte (byte :: rest)).next) (before := byte) stands
      (by rw [Run.next]; dsimp only; rwa [pos])
      (by rw [Run.next]; dsimp only; rw [pos, ← List.drop_drop, left]; rfl)
      (fun p hp => by
        obtain rfl : r.reg.pos = p := by rw [Run.next] at hp; dsimp only at hp; omega
        exact here)
    exact ⟨body ++ body', emits.trans emits', chosen _ (lazy ▸ chosen')⟩

end Run

/-- The tokens of a run: those chosen, then the end marker (R183). -/
theorem matchRun_emits (data : List Byte) (lazy : Nat) (m : Matcher) :
    ∃ body, (Run.start lazy m).Emits (body ++ [.eob]) (matchRun data lazy m) ∧ Token.Chosen data lazy 0 body := by
  obtain ⟨body, emits, chosen⟩ := Run.Emits.loop (r := Run.start lazy m) (data := data) (before := 0) (rest := data)
    (.free (r := Run.start lazy m) (Nat.zero_le _) rfl) (.start data) rfl (fun p hp => by cases hp)
  exact ⟨body, emits.trans (.marker _), chosen⟩

/-! ## The token of a match (R107) -/

theorem length_takeWhile_le (bases : List Nat) (v : Nat) :
    (bases.takeWhile (· ≤ v)).length = bases.findIdx (fun b => !decide (b ≤ v)) := by
  rw [List.takeWhile_eq_take_findIdx_not, List.length_take]
  exact Nat.min_eq_left List.findIdx_le_length

/-- The last row whose base does not exceed the value; the next row's base, if there is one, exceeds it. -/
theorem lastRow_spec {bases : List Nat} {v b0 : Nat} (first : bases[0]? = some b0) (le : b0 ≤ v) :
    lastRow bases v < bases.length ∧ bases.getD (lastRow bases v) 0 ≤ v ∧
      ∀ b, bases[lastRow bases v + 1]? = some b → v < b := by
  rw [lastRow, length_takeWhile_le]
  have size : bases.findIdx (fun b => !decide (b ≤ v)) ≤ bases.length := List.findIdx_le_length
  have above (i : Nat) (e : i = bases.findIdx fun b => !decide (b ≤ v)) (h : i < bases.length) : ¬bases[i] ≤ v := by
    subst e
    simpa using List.findIdx_getElem (w := h)
  have below (i : Nat) (h : i < bases.findIdx fun b => !decide (b ≤ v)) (inside : i < bases.length) : bases[i] ≤ v := by
    simpa using List.not_of_lt_findIdx h
  obtain ⟨inside, rfl⟩ := List.getElem?_eq_some_iff.mp first
  generalize bases.findIdx (fun b => !decide (b ≤ v)) = n at *
  have pos : 0 < n := by
    by_contra zero
    obtain rfl : n = 0 := Nat.eq_zero_of_not_pos zero
    exact above 0 rfl inside le
  refine ⟨by omega, ?_, fun b hb => ?_⟩
  · rw [List.getD_eq_getElem _ _ (by omega)]
    exact below _ (by omega) _
  · rw [Nat.sub_add_cancel pos] at hb
    obtain ⟨more, rfl⟩ := List.getElem?_eq_some_iff.mp hb
    exact Nat.lt_of_not_le (above _ rfl more)

/-- The extra fields of a table cover the gaps between its bases. -/
def Covers (bases extras : List Nat) (top : Nat) : Prop :=
  ∀ c < bases.length, (c + 1 < bases.length → bases.getD (c + 1) 0 ≤ bases.getD c 0 + 2 ^ extras.getD c 0) ∧
    (c + 1 = bases.length → top < bases.getD c 0 + 2 ^ extras.getD c 0)

theorem Covers.lastRow {bases extras : List Nat} {top v b0 : Nat} (h : Covers bases extras top)
    (first : bases[0]? = some b0) (low : b0 ≤ v) (high : v ≤ top) :
    lastRow bases v < bases.length ∧ bases.getD (lastRow bases v) 0 ≤ v ∧
      v - bases.getD (lastRow bases v) 0 < 2 ^ extras.getD (lastRow bases v) 0 := by
  obtain ⟨inside, le, next⟩ := lastRow_spec first low
  refine ⟨inside, le, ?_⟩
  obtain ⟨gap, last⟩ := h _ inside
  by_cases more : Machine.lastRow bases v + 1 < bases.length
  · have := next _ (List.getElem?_eq_getElem more)
    have := gap more
    rw [List.getD_eq_getElem _ _ more] at this
    omega
  · have := last (by omega)
    omega

theorem lenBase_covers : Covers lenBase lenExtra 258 := by unfold Covers; decide

theorem distBase_covers : Covers distBase distExtra 32768 := by unfold Covers; decide

section
variable {l d : Nat} (h3 : 3 ≤ l) (h258 : l ≤ 258) (h1 : 1 ≤ d) (hw : d ≤ 32768)
include h3 h258 h1 hw

theorem Token.ranged_ofMatch : (Token.ofMatch l d).ranged := by
  obtain ⟨row, -, fits⟩ := lenBase_covers.lastRow (v := l) (b0 := 3) rfl h3 h258
  obtain ⟨row', -, fits'⟩ := distBase_covers.lastRow (v := d) (b0 := 1) rfl h1 hw
  change _ < 29 at row
  change _ < 30 at row'
  simp only [Token.ofMatch, Token.ranged, lengthToken, distToken, Nat.add_sub_cancel_left]
  exact ⟨by omega, by omega, trivial, fits, by omega, trivial, fits'⟩

/-- A match's token stands for the copy (R185). -/
theorem Token.expand_ofMatch {o : List Byte} (within : d ≤ o.length) (rest : List Token) :
    Token.expand (Token.ofMatch l d :: rest) o = Token.expand rest (copyBytes d l o) := by
  obtain ⟨-, base, -⟩ := lenBase_covers.lastRow (v := l) (b0 := 3) rfl h3 h258
  obtain ⟨-, base', -⟩ := distBase_covers.lastRow (v := d) (b0 := 1) rfl h1 hw
  have length : lenBase.getD (lastRow lenBase l) 0 + (l - lenBase.getD (lastRow lenBase l) 0) = l := by omega
  have distance : distBase.getD (lastRow distBase d) 0 + (d - distBase.getD (lastRow distBase d) 0) = d := by omega
  simp only [Token.ofMatch, Token.expand, lengthToken, distToken, Nat.add_sub_cancel_left]
  rw [length, distance, if_pos within]

end

/-! ## What the chosen tokens stand for (R185) -/

theorem take_append_getElem? {data : List Byte} {p : Nat} {b : Byte} (h : data[p]? = some b) :
    data.take p ++ [b] = data.take (p + 1) := by
  rw [List.take_add_one, h]; rfl

/-- A copy extends what has been reproduced, where the input repeats itself. -/
theorem copyBytes_take {data : List Byte} {d n p : Nat} (hd : 1 ≤ d) (within : d ≤ p) (room : p + n ≤ data.length)
    (repeats : ∀ k < n, data[p + k]? = data[p - d + k]?) : copyBytes d n (data.take p) = data.take (p + n) := by
  induction n generalizing p with
  | zero => rfl
  | succ n ih =>
    have size : (data.take p).length = p := List.length_take_of_le (by omega)
    have next : data[p]? = some ((data.take p).getD (p - d) 0) := by
      rw [List.getD_eq_getElem _ _ (by omega), List.getElem_take, ← List.getElem?_eq_getElem]
      exact repeats 0 n.succ_pos
    rw [copyBytes, size, take_append_getElem? next, ih (by omega) (by omega) fun k hk => by
      have := repeats (k + 1) (by omega)
      rwa [← Nat.add_assoc, ← Nat.add_assoc, Nat.add_right_comm, Nat.add_right_comm _ k,
        show p - d + 1 = p + 1 - d by omega] at this]
    rw [show p + 1 + n = p + (n + 1) by omega]

section
variable {data : List Byte} {p l d : Nat}

theorem IsMatch.ranged (h : IsMatch data p l d) : (Token.ofMatch l d).ranged :=
  have ⟨h3, h258, h1, hw, _⟩ := h
  Token.ranged_ofMatch h3 h258 h1 hw

theorem IsMatch.expand (h : IsMatch data p l d) (rest : List Token) :
    Token.expand (Token.ofMatch l d :: rest) (data.take p) = Token.expand rest (data.take (p + l)) := by
  obtain ⟨h3, h258, h1, hw, within, room, repeats⟩ := h
  rw [Token.expand_ofMatch h3 h258 h1 hw (by rw [List.length_take]; omega), copyBytes_take h1 within room repeats]

end

theorem expand_literal {data : List Byte} {p : Nat} {b : Byte} (h : data[p]? = some b) (rest : List Token) :
    Token.expand (.lit b.toNat :: rest) (data.take p) = Token.expand rest (data.take (p + 1)) := by
  rw [Token.expand, BitVec.ofNat_toNat, BitVec.setWidth_eq, take_append_getElem? h]

theorem Token.Chosen.ranged {data : List Byte} {lazy p : Nat} {toks : List Token} (h : Token.Chosen data lazy p toks) :
    ∀ t ∈ toks, t.ranged ∧ t ≠ .eob := by
  have literal (b : Byte) : (Token.lit b.toNat).ranged ∧ Token.lit b.toNat ≠ .eob := ⟨Nat.le_of_lt_succ b.isLt, nofun⟩
  have copy {p l d : Nat} (best : BestMatch data p l d) : (Token.ofMatch l d).ranged ∧ Token.ofMatch l d ≠ .eob :=
    ⟨best.1.ranged, nofun⟩
  induction h with
  | finish => exact fun _ h => by cases h
  | literal byte none more ih => exact List.forall_mem_cons.mpr ⟨literal _, ih⟩
  | taken best long more ih => exact List.forall_mem_cons.mpr ⟨copy best, ih⟩
  | committed best short next more ih => exact List.forall_mem_cons.mpr ⟨copy best, ih⟩
  | overtaken best short byte next longer more ih =>
    exact List.forall_mem_cons.mpr ⟨literal _, List.forall_mem_cons.mpr ⟨copy next, ih⟩⟩

/-- The tokens chosen from a position on reproduce the input from there. -/
theorem Token.Chosen.expand {data : List Byte} {lazy p : Nat} {toks : List Token} (h : Token.Chosen data lazy p toks)
    (rest : List Token) : Token.expand (toks ++ rest) (data.take p) = Token.expand rest data := by
  induction h with
  | finish => rw [List.nil_append, List.take_length]
  | literal byte none more ih => rw [List.cons_append, expand_literal byte, ih]
  | taken best long more ih => rw [List.cons_append, best.1.expand, ih]
  | committed best short next more ih => rw [List.cons_append, best.1.expand, ih]
  | overtaken best short byte next longer more ih =>
    rw [List.cons_append, List.cons_append, expand_literal byte, next.1.expand, ih]

/-- Settles O32: what the run emits is what the input's matches choose. -/
theorem tokensReproduceTheInput : Obligations.TokensReproduceTheInput := by
  intro data lazy m
  obtain ⟨body, emits, chosen⟩ := matchRun_emits data lazy m
  exact ⟨body, emits.tok, chosen.ranged, chosen.expand [.eob], chosen⟩

end Sys2Proof.Machine
end

section
/-! PROOFS. The packer over a token stream (R235), and ENC.FIXED (R236), whose codes are those of R112 and R113. -/

namespace Sys2Proof.Machine

/-! ## One token of the stream -/

namespace Token

/-- The instruction a token is. -/
def instr : Token → Instr
  | .lit b => .tLit (BitVec.ofNat 8 b)
  | .eob => .tEob
  | .copy lc le lv dc de dv =>
    .tMatch (BitVec.ofNat 8 lc) (BitVec.ofNat 16 le) (BitVec.ofNat 16 lv) (BitVec.ofNat 16 dc) (BitVec.ofNat 16 de)
      (BitVec.ofNat 16 dv)

/-- Every symbol of the token has a code in the block's tables. -/
def Coded (s : State) : Token → Prop
  | .lit b => Machine.Coded s.lenLL s.codeLL b
  | .eob => Machine.Coded s.lenLL s.codeLL 256
  | .copy lc _ _ dc _ _ => Machine.Coded s.lenLL s.codeLL lc ∧ Machine.Coded s.lenD s.codeD dc

theorem toNat_slot {v : Nat} (h : v < 2 ^ 16) : (BitVec.ofNat 16 v).toNat = v := by
  rw [BitVec.toNat_ofNat, Nat.mod_eq_of_lt h]

/-- The packer fetches the token that stands at ENC.tokIndex. -/
theorem fetched {s : State} {t : Token} {more : List Slot} (hs : s.seq = .pack) (ranged : t.ranged)
    (ht : s.tok.drop s.enc.tokIndex = t.slots ++ more) :
    ∃ r, fetchElement s = .ok (r, s) ∧ decode r = .ok t.instr := by
  have fetch : fetchElement s = fetchToken s := by simp only [fetchElement, hs]
  rw [fetch]
  cases t with
  | lit b =>
    have small : b < 2 ^ 8 := Nat.lt_succ_of_le ranged
    have slot := toNat_slot (v := b) (by omega)
    have decoded := decodeToken_encode (i := .tLit (BitVec.ofNat 8 b)) rfl rfl
    have word : (encode (.tLit (BitVec.ofNat 8 b))).word = b := by
      rw [encode]; dsimp only; rw [BitVec.toNat_ofNat, Nat.mod_eq_of_lt small]
    rw [word] at decoded
    exact ⟨_, fetchToken_single ht (by omega), by rw [decode, slot]; exact decoded⟩
  | eob => exact ⟨_, fetchToken_single ht (.inl le_rfl), rfl⟩
  | copy lc le lv dc de dv =>
    obtain ⟨low, high, -⟩ := ranged
    have slot := toNat_slot (v := lc) (by omega)
    have word (a b c d e f : Slot) : a.toNat + 2 ^ 16 * b.toNat + 2 ^ 32 * c.toNat + 2 ^ 48 * d.toNat +
        2 ^ 64 * e.toNat + 2 ^ 80 * f.toNat = slotsWord ([a, b, c, d, e, f].map BitVec.toNat) := by
      simp only [List.map_cons, List.map_nil, slotsWord]; omega
    refine ⟨_, fetchToken_match ht (by omega) (by omega), ?_⟩
    rw [decode, word]
    dsimp only
    rw [decodeToken_slots _ _ _ _ _ (by omega) (by omega), slot]
    rfl

variable {s : State} {t : Token} (ho : s.bw.isOpen = true) (hb : s.bw.bounded)
include ho hb

/-- A token before the end marker is packed. -/
theorem exec_wrote (ranged : t.ranged) (other : t ≠ .eob) (hc : t.Coded s) :
    ∃ w, exec t.instr s = .next (advance t.slots.length { s with bw := w }) ∧ s.bw.Wrote (t.blockBits s) w := by
  cases t with
  | lit b =>
    have byte : (BitVec.ofNat 8 b).toNat = b := by
      rw [BitVec.toNat_ofNat, Nat.mod_eq_of_lt (Nat.lt_succ_of_le ranged)]
    have packed := exec_tLit_wrote ho hb (b := BitVec.ofNat 8 b) (byte.symm ▸ hc)
    rwa [byte] at packed
  | eob => exact absurd rfl other
  | copy lc le lv dc de dv =>
    obtain ⟨low, high, hle, hlv, hdc, hde, hdv⟩ := ranged
    have lenWidth : le ≤ 5 := hle ▸ getD_le (by decide) _
    have distWidth : de ≤ 13 := hde ▸ getD_le (by decide) _
    have lenRoom : 2 ^ le ≤ 2 ^ 5 := Nat.pow_le_pow_right (by decide) lenWidth
    have distRoom : 2 ^ de ≤ 2 ^ 13 := Nat.pow_le_pow_right (by decide) distWidth
    have code : 256 + (BitVec.ofNat 8 lc).toNat = lc := by rw [BitVec.toNat_ofNat]; omega
    have packed := exec_tMatch_wrote ho hb (lc := BitVec.ofNat 8 lc) (le := BitVec.ofNat 16 le) (lv := BitVec.ofNat 16 lv)
      (dc := BitVec.ofNat 16 dc) (de := BitVec.ofNat 16 de) (dv := BitVec.ofNat 16 dv)
    rw [toNat_slot (v := le) (by omega), toNat_slot (v := lv) (by omega), toNat_slot (v := dc) (by omega),
      toNat_slot (v := de) (by omega), toNat_slot (v := dv) (by omega), code] at packed
    exact packed (by omega) (by omega) hdc (by rw [hle, show (BitVec.ofNat 8 lc).toNat - 1 = lc - 257 by omega]) hlv hde
      hdv hc.1 hc.2

end Token

/-! ## The whole stream -/

/-- The packer with this writer before this token slot. -/
def State.packed (w : Writer) (n : Nat) (s : State) : State :=
  { s with bw := w, enc := { s.enc with tokIndex := n } }

section
variable {s : State} (hs : s.seq = .pack)
include hs

/-- One token before the end marker is one turn. -/
theorem turn_packed {w : Writer} {n : Nat} {t : Token} {more : List Slot} (ho : w.isOpen = true) (hb : w.bounded)
    (ht : s.tok.drop n = t.slots ++ more) (ranged : t.ranged) (other : t ≠ .eob) (hc : t.Coded s) :
    ∃ w', Turns (s.packed w n) (s.packed w' (n + t.slots.length)) ∧ w.Wrote (t.blockBits s) w' := by
  obtain ⟨r, fetched, decoded⟩ := Token.fetched (s := s.packed w n) hs ranged ht
  obtain ⟨w', run, wrote⟩ := Token.exec_wrote (s := s.packed w n) ho hb ranged other (by cases t <;> exact hc)
  rw [exec_eq_execElement _ _ (by cases t <;> exact Format.noConfusion)] at run
  exact ⟨w', .of_fetched (by rw [State.packed, hs]; exact Seq.noConfusion) fetched decoded run, by cases t <;> exact wrote⟩

/-- The packer reaches the end of a token stream with all its bits written. -/
theorem reaches_packed {w : Writer} {n : Nat} {body : List Token} (ho : w.isOpen = true) (hb : w.bounded)
    (ht : s.tok.drop n = ((body ++ [Token.eob]).map Token.slots).flatten) (ranged : ∀ t ∈ body, t.ranged ∧ t ≠ .eob)
    (hc : ∀ t ∈ body ++ [Token.eob], t.Coded s) :
    Reaches (fun t => t.seq = .idle ∧ ∃ w' m, w.Wrote ((body ++ [Token.eob]).map (Token.blockBits s)).flatten w' ∧
      t = finishEncode (s.packed w' m)) (s.packed w n) := by
  induction body generalizing w n with
  | nil =>
    have slots : s.tok.drop n = Token.eob.slots ++ [] := ht
    obtain ⟨r, fetched, decoded⟩ := Token.fetched (s := s.packed w n) (t := .eob) hs trivial slots
    obtain ⟨w', run, wrote⟩ := exec_tEob_wrote (s := s.packed w n) ho hb (hc .eob (List.mem_singleton_self _))
    have idle : (finishEncode (s.packed w' n)).seq = .idle := by
      rw [finishEncode_eq (s := s.packed w' n) (wrote.isOpen.trans ho)]; rfl
    rw [exec_eq_execElement _ _ (by exact Format.noConfusion)] at run
    have turns := Turns.of_fetched (s := s.packed w n) (by rw [State.packed, hs]; exact Seq.noConfusion) fetched decoded run
    refine .turn turns (.of_holds ⟨idle, w', n, ?_, rfl⟩)
    have bits : (([] ++ [Token.eob]).map (Token.blockBits s)).flatten = Token.blockBits s .eob := List.append_nil _
    rw [bits]
    exact wrote
  | cons t body ih =>
    obtain ⟨⟨ranged, other⟩, rest⟩ := List.forall_mem_cons.mp ranged
    rw [List.cons_append, List.map_cons, List.flatten_cons] at ht ⊢
    obtain ⟨coded, codes⟩ := List.forall_mem_cons.mp hc
    obtain ⟨u, turns, wrote⟩ := turn_packed hs ho hb ht ranged other coded
    have left : s.tok.drop (n + t.slots.length) = ((body ++ [Token.eob]).map Token.slots).flatten := by
      rw [← List.drop_drop, ht, List.drop_left]
    obtain ⟨v, run, idle, w', m, wrote', rfl⟩ := ih (wrote.isOpen.trans ho) wrote.bounded left rest codes
    exact .turn turns ⟨_, run, idle, w', m, wrote.trans wrote', rfl⟩

end

/-- A command of ENC whose packer begins with `bits` written: what it returns, and what it leaves. -/
theorem settle_packs {s v : State} {bits : List Bool} {body : List Token} (hs : v.seq = .pack) (grain : v.grain = .command)
    (wrote : (bwInit s).bw.Wrote bits v.bw) (inside : s.cfg.outputOffset ≤ (s.cfg.outputBuffer.getD []).length)
    (start : v.enc.tokIndex = 0) (ht : v.tok = ((body ++ [Token.eob]).map Token.slots).flatten)
    (ranged : ∀ t ∈ body, t.ranged ∧ t ≠ .eob) (hc : ∀ t ∈ body ++ [Token.eob], t.Coded v) :
    ∃ (bs : List Byte) (pad : Nat) (w : Writer) (m : Nat),
      settle v = .next (answerDone ((s.cfg.outputBuffer.getD []).take s.cfg.outputOffset ++ bs)
        { v.packed w m with freeCtr := v.freeCtr + 1 }) ∧
      pad < 8 ∧ w.isOpen = false ∧ w.byteIndex = s.cfg.outputOffset + bs.length ∧
      (∀ a, a < s.cfg.outputOffset ∨ w.byteIndex ≤ a → w.out.read a = (s.cfg.outputBuffer.getD [])[a]?) ∧
      bytesBits bs = bits ++ ((body ++ [Token.eob]).map (Token.blockBits v)).flatten ++ List.replicate pad false := by
  have same : v.packed v.bw 0 = v := by rw [← start]; rfl
  have reach := reaches_packed hs (n := 0) (wrote.isOpen.trans rfl) wrote.bounded ht ranged hc
  rw [same] at reach
  obtain ⟨t, run, w, m, packed, rfl⟩ := settle_of_reaches grain reach
  obtain ⟨bs, pad, w', few, shown, finish, closed, index, frame⟩ :=
    finishEncode_returns (u := v.packed w m) (wrote.trans packed) inside
  exact ⟨bs, pad, w', m, run.trans (congrArg _ finish), few, closed, index, frame, shown⟩

/-! ## The fixed codes (R112, R113) -/

/-- A canonical code, stored bit-reversed, is written top bit first. -/
theorem lsbBits_revBits {l c : Nat} (h : c < 2 ^ l) : lsbBits (revBits l c) l = msbBits c l := by
  rw [← msbBits_revBits, revBits_revBits, Nat.mod_eq_of_lt h]

theorem CodesFit.ccbCodes {lens : List Nat} (h : CodesFit lens) : ccbCodes lens = some ((ccbCodes lens).getD []) := by
  obtain ⟨codes, h⟩ := Option.isSome_iff_exists.mp (ccbCodes_isSome_iff.mpr h)
  rw [h]; rfl

theorem ccbCodes_fixedLitLens : ccbCodes fixedLitLens = some fixedLitLenCodes := by
  have kraft : kraftSum 9 fixedLitLens ≤ 2 ^ 9 := by decide +kernel
  unfold fixedLitLenCodes
  exact ((codesFit_iff fun _ => fixedLitLens_le).mpr kraft).ccbCodes

theorem ccbCodes_fixedDistLens : ccbCodes fixedDistLens = some fixedDistCodes := by
  have kraft : kraftSum 5 fixedDistLens ≤ 2 ^ 5 := by decide +kernel
  unfold fixedDistCodes
  exact ((codesFit_iff fun _ => fixedDistLens_le).mpr kraft).ccbCodes

/-- The codes of a block are the ROM's (R236). -/
structure FixedCodes (s : State) : Prop where
  lenLL  : s.lenLL.entries = fixedLitLens
  codeLL : s.codeLL.entries = fixedLitLenCodes
  lenD   : s.lenD.entries = fixedDistLens
  codeD  : s.codeD.entries = fixedDistCodes

namespace FixedCodes

variable {s : State} (h : FixedCodes s) {k : Nat}
include h

theorem litLen (hk : k < 288) : Coded s.lenLL s.codeLL k ∧
    lsbBits (s.codeLL.entries.getD k 0) (s.lenLL.entries.getD k 0) = fixedSymbolBits k := by
  obtain ⟨l, hl, pos, le, small, bits⟩ := fixedSymbolBits_eq hk
  have inside : k < fixedLitLens.length := (List.getElem?_eq_some_iff.mp hl).1
  have len : fixedLitLens.getD k 0 = l := by rw [List.getD_eq_getElem?_getD, hl]; rfl
  have code := (ccbCodes_canonical ccbCodes_fixedLitLens).2 k inside
  have fits := ccbCodes_lt ccbCodes_fixedLitLens inside
  rw [Coded, h.lenLL, h.codeLL, len, bits, code, len, lsbBits_revBits small]
  exact ⟨⟨by omega, by omega, revBits_lt _ _⟩, rfl⟩

theorem dist (hk : k < 30) : Coded s.lenD s.codeD k ∧
    lsbBits (s.codeD.entries.getD k 0) (s.lenD.entries.getD k 0) = msbBits k 5 := by
  have hl := getElem?_fixedDistLens hk
  have inside : k < fixedDistLens.length := (List.getElem?_eq_some_iff.mp hl).1
  have len : fixedDistLens.getD k 0 = 5 := by rw [List.getD_eq_getElem?_getD, hl]; rfl
  have code := (ccbCodes_canonical ccbCodes_fixedDistLens).2 k inside
  rw [Coded, h.lenD, h.codeD, len, code, len, canonicalCode_fixedDist hk, lsbBits_revBits (by omega)]
  exact ⟨⟨by omega, by omega, revBits_lt _ _⟩, rfl⟩

/-- A token in range has its code and is written in the fixed codes. -/
theorem token {t : Token} (ranged : t.ranged) : t.Coded s ∧ t.blockBits s = t.fixedBits := by
  cases t with
  | lit b => exact h.litLen (Nat.lt_of_le_of_lt ranged (by decide))
  | eob => exact h.litLen (by decide)
  | copy lc le lv dc de dv =>
    obtain ⟨-, high, -, -, hdc, -⟩ := ranged
    obtain ⟨coded, bits⟩ := h.litLen (k := lc) (by omega)
    obtain ⟨coded', bits'⟩ := h.dist (k := dc) (by omega)
    exact ⟨⟨coded, coded'⟩, by rw [Token.blockBits, bits, bits', Token.fixedBits]⟩

end FixedCodes

/-! ## ENC.FIXED (R236) -/

/-- The tokens of a run of the matcher: those before the end marker are in range and are no end marker. -/
theorem matchRun_tokens (data : List Byte) (lazy : Nat) (m : Matcher) :
    ∃ body, (matchRun data lazy m).tok = ((body ++ [Token.eob]).map Token.slots).flatten ∧ ∀ t ∈ body, t.ranged ∧ t ≠ .eob :=
  have ⟨body, tok, ranged, _⟩ := tokensReproduceTheInput data lazy m
  ⟨body, tok, ranged⟩

theorem ranged_of_body {body : List Token} (h : ∀ t ∈ body, t.ranged ∧ t ≠ .eob) : ∀ t ∈ body ++ [Token.eob], t.ranged :=
  List.forall_mem_append.mpr ⟨fun t ht => (h t ht).1, fun t ht => by rw [List.mem_singleton.mp ht]; trivial⟩

/-- Settles O38: the block's header, then the matcher's tokens, whose codes are the fixed ones. -/
theorem encFixedWritesOneFixedBlock : Obligations.EncFixedWritesOneFixedBlock := by
  refine ⟨rfl, fun s hf grain inside => ?_⟩
  obtain ⟨body, tok, ranged⟩ := matchRun_tokens s.inMem.bytes s.cfg.lazy s.lzm
  obtain ⟨w, header, wrote⟩ := writeFields_wrote (fields := [(1, 1), (1, 2)])
    (s := useFixedCodes (lzmRun (bwInit (beginCommand true s)))) rfl (bwInit_bounded (beginCommand true s)) (by decide)
  let u := useFixedCodes (lzmRun (bwInit (beginCommand true s)))
  let v := startPacking { u with bw := w }
  have begun : exec .encFixed s = settle v := by
    rw [exec, execEncFixed, framed_runs hf, startFixed, header]; rfl
  have codes : FixedCodes v := ⟨rfl, rfl, rfl, rfl⟩
  have token (t : Token) (ht : t ∈ body ++ [Token.eob]) := codes.token (ranged_of_body ranged t ht)
  obtain ⟨bs, pad, w', m, run, few, closed, index, frame, shown⟩ := settle_packs (s := beginCommand true s) (v := v) rfl
    grain wrote inside rfl tok ranged fun t ht => (token t ht).1
  rw [List.map_congr_left fun t ht => (token t ht).2] at shown
  exact ⟨_, bs, body ++ [Token.eob], pad, begun.trans run, rfl, rfl, tok, ranged_of_body ranged, few, closed, index, frame,
    shown, rfl⟩

end Sys2Proof.Machine
end

section
/-! PROOFS. ENC.DYNAMIC (R240): the tables it builds, the header it writes, and the codes of the tokens. -/

namespace Sys2Proof.Machine

/-! ## Emissions counted (R182 to R184) -/

theorem length_count (k : Nat) (freq : List Nat) : (count k freq).length = freq.length := List.length_modify ..

theorem le_getD_count (k i : Nat) (freq : List Nat) : freq.getD i 0 ≤ (count k freq).getD i 0 := by
  simp only [List.getD_eq_getElem?_getD, count, List.getElem?_modify]
  cases freq[i]? <;> simp
  split <;> omega

theorem getD_count_pos {k : Nat} {freq : List Nat} (h : k < freq.length) : 0 < (count k freq).getD k 0 := by
  simp [List.getD_eq_getElem?_getD, count, h]

section
variable {step : List Nat → Token → List Nat} (keeps : ∀ freq t, (step freq t).length = freq.length)
  (grows : ∀ freq t i, freq.getD i 0 ≤ (step freq t).getD i 0)

include keeps in
theorem length_foldl_count (toks : List Token) (freq : List Nat) : (toks.foldl step freq).length = freq.length := by
  induction toks generalizing freq with
  | nil => rfl
  | cons t toks ih => rw [List.foldl_cons, ih, keeps]

include grows in
theorem le_getD_foldl_count (toks : List Token) (freq : List Nat) (i : Nat) :
    freq.getD i 0 ≤ (toks.foldl step freq).getD i 0 := by
  induction toks generalizing freq with
  | nil => exact le_rfl
  | cons t toks ih => exact (grows freq t i).trans (ih _)

include keeps grows in
/-- A symbol emitted has been counted. -/
theorem getD_foldl_count_pos {toks : List Token} {t : Token} (mem : t ∈ toks) {k : Nat} {freq : List Nat}
    (counts : ∀ freq : List Nat, k < freq.length → 0 < (step freq t).getD k 0) (hk : k < freq.length) :
    0 < (toks.foldl step freq).getD k 0 := by
  obtain ⟨before, after, rfl⟩ := List.append_of_mem mem
  rw [List.foldl_append, List.foldl_cons]
  exact (counts _ (by rwa [length_foldl_count keeps])).trans_le (le_getD_foldl_count grows ..)

end

theorem length_countD (freq : List Nat) (t : Token) : (Token.countD freq t).length = freq.length := by
  cases t
  case copy => exact length_count ..
  all_goals rfl

theorem le_getD_countD (freq : List Nat) (t : Token) (i : Nat) : freq.getD i 0 ≤ (Token.countD freq t).getD i 0 := by
  cases t
  case copy => exact le_getD_count ..
  all_goals exact le_rfl

/-- The symbols of these tokens are counted in these frequency tables. -/
def CountedIn (freqLL freqD : List Nat) : Token → Prop
  | .lit b => 0 < freqLL.getD b 0
  | .eob => 0 < freqLL.getD 256 0
  | .copy lc _ _ dc _ _ => 0 < freqLL.getD lc 0 ∧ 0 < freqD.getD dc 0

/-- The frequency tables of a run: their sizes, and every token emitted counted (R185). -/
theorem Run.Emits.counted {lazy : Nat} {m : Matcher} {toks : List Token} {r : Run} (h : (Run.start lazy m).Emits toks r)
    (ranged : ∀ t ∈ toks, t.ranged) :
    r.freqLL.length = 286 ∧ r.freqD.length = 30 ∧ ∀ t ∈ toks, CountedIn r.freqLL r.freqD t := by
  have keepsLL (freq : List Nat) (t : Token) : (Token.countLL freq t).length = freq.length := length_count ..
  have growsLL (freq : List Nat) (t : Token) (i : Nat) : freq.getD i 0 ≤ (Token.countLL freq t).getD i 0 :=
    le_getD_count ..
  have sizeLL : (Run.start lazy m).freqLL.length = 286 := List.length_replicate
  have sizeD : (Run.start lazy m).freqD.length = 30 := List.length_replicate
  have litLen {t : Token} (mem : t ∈ toks) (hk : t.symbol < 286) : 0 < r.freqLL.getD t.symbol 0 := by
    rw [h.freqLL]
    exact getD_foldl_count_pos keepsLL growsLL mem (fun _ => getD_count_pos) (sizeLL ▸ hk)
  refine ⟨by rw [h.freqLL, length_foldl_count keepsLL, sizeLL], by rw [h.freqD, length_foldl_count length_countD, sizeD],
    fun t mem => ?_⟩
  cases t with
  | lit b => exact litLen mem (Nat.lt_of_le_of_lt (ranged _ mem) (by decide))
  | eob => exact litLen mem (by decide : 256 < 286)
  | copy lc le lv dc de dv =>
    obtain ⟨-, high, -, -, hdc, -⟩ := ranged _ mem
    refine ⟨litLen mem (Nat.lt_succ_of_le high), ?_⟩
    rw [h.freqD]
    exact getD_foldl_count_pos length_countD le_getD_countD mem (fun _ => getD_count_pos)
      (by rw [sizeD]; exact Nat.lt_succ_of_le hdc)

/-! ## Code lengths that can be used (R204) -/

/-- The parameter CodeLengths gives these lengths, and they meet R204 (a), (b) and (c). -/
def Usable (p : Config.Params) (freq : List Nat) (limit : Nat) (lens : List Nat) : Prop :=
  ccbLengths p freq limit = .ok lens ∧ lens.length = freq.length ∧
    (∀ i < freq.length, freq.getD i 0 = 0 ↔ lens.getD i 0 = 0) ∧ (∀ l ∈ lens, l ≤ limit) ∧ kraftSum limit lens ≤ 2 ^ limit

section
variable {p : Config.Params} {freq lens : List Nat} {limit : Nat} (h : Usable p freq limit lens)
include h

/-- Lengths that can be used have codes (R210). -/
theorem Usable.codes : ccbCodes lens = some ((ccbCodes lens).getD []) := by
  obtain ⟨-, -, -, bounded, kraft⟩ := h
  exact ((codesFit_iff bounded).mpr kraft).ccbCodes

/-- A symbol that occurs is coded. -/
theorem Usable.coded {lenTable codeTable : Table} (hl : lenTable.entries = lens) (hc : ccbCodes lens = some codeTable.entries)
    (small : limit ≤ 15) {i : Nat} (occurs : 0 < freq.getD i 0) : Coded lenTable codeTable i := by
  obtain ⟨-, size, used, bounded, -⟩ := h
  have inside : i < freq.length := by
    by_contra out
    rw [List.getD_eq_default _ _ (by omega)] at occurs
    cases occurs
  have mem : lens.getD i 0 ∈ lens := by
    rw [List.getD_eq_getElem _ _ (by omega)]
    exact List.getElem_mem _
  rw [Coded, hl]
  exact ⟨fun zero => (Nat.ne_of_gt occurs) ((used i inside).mpr zero), (bounded _ mem).trans small,
    ccbCodes_lt hc (by omega)⟩

/-- CCB.LENGTHS and CCB.CODES inside ENC.DYNAMIC. -/
theorem Usable.buildCodes {s : State} {a : Alphabet} (hp : s.params = p) (hf : (s.freqTable a).entries = freq) :
    buildCodes a limit s = .ok ((s.putLens a lens).putCodes a ((ccbCodes lens).getD [])) := by
  unfold Machine.buildCodes
  rw [hp, hf, h.1]
  dsimp only
  rw [h.codes]
  rfl

end

/-! ## The counts of a dynamic header (R240) -/

theorem trimmed_spec {floor n : Nat} (h : floor ≤ n) (lengthAt : Nat → Nat) :
    Trimmed floor n lengthAt (trimmed floor lengthAt n) := by
  induction n with
  | zero => exact ⟨h, le_rfl, fun i low high => absurd high (Nat.not_lt_zero i), .inl (Nat.le_zero.mp h).symm⟩
  | succ n ih =>
    rw [trimmed]
    split
    next drop =>
      obtain ⟨low, high, zero, last⟩ := ih (by omega)
      refine ⟨low, Nat.le_succ_of_le high, fun i above below => ?_, last⟩
      rcases Nat.lt_succ_iff_lt_or_eq.mp below with below | rfl
      · exact zero i above below
      · exact drop.2
    next keep =>
      refine ⟨h, le_rfl, fun i low high => absurd high (Nat.not_lt.mpr low), ?_⟩
      by_cases e : n + 1 = floor
      · exact .inl e
      · exact .inr fun zero => keep ⟨by omega, zero⟩

theorem Trimmed.le {floor n k k' : Nat} {lengthAt : Nat → Nat} (h : Trimmed floor n lengthAt k)
    (h' : Trimmed floor n lengthAt k') : k' ≤ k := by
  obtain ⟨low, -, zero, -⟩ := h
  obtain ⟨-, high, -, last⟩ := h'
  by_contra more
  rcases last with rfl | last
  · omega
  · exact last (zero (k' - 1) (by omega) (by omega))

theorem Trimmed.eq_trimmed {floor n k : Nat} {lengthAt : Nat → Nat} (h : Trimmed floor n lengthAt k) :
    trimmed floor lengthAt n = k :=
  have h' := trimmed_spec (h.1.trans h.2.1) lengthAt
  Nat.le_antisymm (h.le h') (h'.le h)

/-! ## Run-length entries (R215 to R218) -/

theorem le_of_mem_chunks {cap fuel run c : Nat} (h : c ∈ chunks cap fuel run) : c ≤ cap := by
  have one (run : Nat) : chunkOf cap run ≤ cap := by
    rw [chunkOf]
    split <;> omega
  induction fuel generalizing run with
  | zero => cases h
  | succ fuel ih =>
    cases run with
    | zero => cases h
    | succ run =>
      rcases List.mem_cons.mp h with rfl | h
      · exact one _
      · exact ih h

theorem mem_of_mem_runsOf {src : List Nat} {v n : Nat} (h : (v, n) ∈ runsOf src) : v ∈ src := by
  induction src generalizing n with
  | nil => cases h
  | cons x src ih =>
    rw [runsOf] at h
    split at h
    next w k more runs =>
      split at h
      next e =>
        rcases List.mem_cons.mp h with e' | h
        · cases e'; exact e ▸ List.mem_cons_self
        · exact List.mem_cons_of_mem _ (ih (runs ▸ List.mem_cons_of_mem _ h))
      next =>
        rcases List.mem_cons.mp h with e' | h
        · cases e'; exact List.mem_cons_self
        · exact List.mem_cons_of_mem _ (ih (runs ▸ h))
    next =>
      cases List.mem_singleton.mp h
      exact List.mem_cons_self

theorem ranged_plainEntry {v : Nat} (h : v ≤ 15) : (plainEntry v).ranged := .inl ⟨h, rfl, rfl⟩

theorem ranged_zeroEntry {rpt : Nat} (h : rpt ≤ 138) : (zeroEntry rpt).ranged := by
  rw [zeroEntry]
  split
  · exact .inr (.inr (.inl ⟨rfl, rfl, by dsimp only; omega⟩))
  · exact .inr (.inr (.inr ⟨rfl, rfl, by dsimp only; omega⟩))

theorem ranged_of_mem_runEntries {v run : Nat} (hv : v ≤ 15) {e : RleEntry} (h : e ∈ runEntries v run) : e.ranged := by
  rw [runEntries] at h
  split at h
  · split at h
    · rw [List.eq_of_mem_replicate h]
      exact ranged_plainEntry (Nat.zero_le _)
    · obtain ⟨rpt, mem, rfl⟩ := List.mem_map.mp h
      exact ranged_zeroEntry (le_of_mem_chunks mem)
  · rcases List.mem_cons.mp h with rfl | h
    · exact ranged_plainEntry hv
    · split at h
      · rw [List.eq_of_mem_replicate h]
        exact ranged_plainEntry hv
      · obtain ⟨rpt, mem, rfl⟩ := List.mem_map.mp h
        have := le_of_mem_chunks mem
        exact .inr (.inl ⟨rfl, rfl, by dsimp only; omega⟩)

/-- Lengths of 0 to 15 have entries whose fields are in range (R96). -/
theorem ranged_of_mem_rleOf {src : List Nat} (h : ∀ v ∈ src, v ≤ 15) {e : RleEntry} (he : e ∈ rleOf src) : e.ranged := by
  obtain ⟨es, hes, he⟩ := List.mem_flatten.mp he
  obtain ⟨⟨v, n⟩, run, rfl⟩ := List.mem_map.mp hes
  exact ranged_of_mem_runEntries (h v (mem_of_mem_runsOf run)) he

theorem RleEntry.ranged.bounds {e : RleEntry} (h : e.ranged) : e.symbol ≤ 18 ∧ e.bits ≤ 7 ∧ e.value < 2 ^ e.bits := by
  rcases h with ⟨hs, hb, hv⟩ | ⟨hs, hb, hv⟩ | ⟨hs, hb, hv⟩ | ⟨hs, hb, hv⟩ <;> rw [hb] <;> omega

/-! ## The tables of a dynamic block -/

/-- From `s` to `u` the tables of a dynamic block with these lengths and counts have been built. -/
structure DynamicTables (lensLL lensD lensCL : List Nat) (hlit hdist : Nat) (s u : State) : Prop where
  lenLL  : u.lenLL.entries = lensLL
  lenD   : u.lenD.entries = lensD
  lenCL  : u.lenCL.entries = lensCL
  codeLL : ccbCodes lensLL = some u.codeLL.entries
  codeD  : ccbCodes lensD = some u.codeD.entries
  codeCL : ccbCodes lensCL = some u.codeCL.entries
  countLL : u.enc.hlit = hlit
  countD : u.enc.hdist = hdist
  countCL : Trimmed 4 19 (fun i => lensCL.getD (clOrder.getD i 0) 0) u.enc.hclen
  rle    : u.rle = rleOf (lensLL.take hlit ++ lensD.take hdist)
  freqCL : u.freqCL.entries = rleFreq u.rle
  frame  : u = { s with
                 lenLL := u.lenLL, lenD := u.lenD, lenCL := u.lenCL
                 codeLL := u.codeLL, codeD := u.codeD, codeCL := u.codeCL, rle := u.rle, freqCL := u.freqCL
                 enc := { u.enc with chunkPos := s.enc.chunkPos, tokIndex := s.enc.tokIndex } }

/-- The counts of a dynamic header are registers of the encoder (R28). -/
def State.withCounts (hlit hdist hclen : Nat) (s : State) : State :=
  { s with enc := { s.enc with hlit := hlit, hdist := hdist, hclen := hclen } }

theorem dynamicTables_eq {s s1 s2 s3 : State} {lensLL lensD : List Nat} {hlit hdist : Nat}
    (first : buildCodes .litLen 15 s = .ok s1) (second : buildCodes .dist 7 s1 = .ok s2)
    (lenLL : s2.lenLL.entries = lensLL) (lenD : s2.lenD.entries = lensD)
    (trimLL : Trimmed 257 286 (fun i => lensLL.getD i 0) hlit) (trimD : Trimmed 1 30 (fun i => lensD.getD i 0) hdist)
    (third : buildCodes .codeLen 7 (ccbRle (lensLL.take hlit ++ lensD.take hdist) s2) = .ok s3) :
    dynamicTables s = .ok
      (s3.withCounts hlit hdist (trimmed 4 (fun i => s3.lenCL.entries.getD (clOrder.getD i 0) 0) 19)) := by
  have countLL : trimmed 257 (fun i => lensLL.getD i 0) Config.nLitLen = hlit := trimLL.eq_trimmed
  have countD : trimmed 1 (fun i => lensD.getD i 0) Config.nDist = hdist := trimD.eq_trimmed
  rw [dynamicTables, show Config.limitLitLen = 15 from rfl, first]
  dsimp only
  rw [show Config.limitDist = 7 from rfl, second]
  dsimp only
  rw [lenLL, lenD, countLL, countD, show Config.limitCl = 7 from rfl, third]
  rfl

section
variable {s : State} {lensLL lensD lensCL : List Nat} {hlit hdist : Nat}
  (usableLL : Usable s.params s.freqLL.entries 15 lensLL) (usableD : Usable s.params s.freqD.entries 7 lensD)
  (trimLL : Trimmed 257 286 (fun i => lensLL.getD i 0) hlit) (trimD : Trimmed 1 30 (fun i => lensD.getD i 0) hdist)
  (usableCL : Usable s.params (rleFreq (rleOf (lensLL.take hlit ++ lensD.take hdist))) 7 lensCL)
include usableLL usableD trimLL trimD usableCL

theorem dynamicTables_built : ∃ u, dynamicTables s = .ok u ∧ DynamicTables lensLL lensD lensCL hlit hdist s u := by
  have first := usableLL.buildCodes (s := s) (a := .litLen) rfl rfl
  have second := usableD.buildCodes (s := (s.putLens .litLen lensLL).putCodes .litLen ((ccbCodes lensLL).getD []))
    (a := .dist) rfl rfl
  have third := usableCL.buildCodes (a := .codeLen) (s := ccbRle (lensLL.take hlit ++ lensD.take hdist)
    ((((s.putLens .litLen lensLL).putCodes .litLen ((ccbCodes lensLL).getD [])).putLens .dist lensD).putCodes .dist
      ((ccbCodes lensD).getD []))) (by simp [ccbRle]) rfl
  have tables := dynamicTables_eq first second rfl rfl trimLL trimD third
  refine ⟨_, tables, ?_⟩
  dsimp only [State.withCounts, State.putCodes, State.putLens, ccbRle]
  exact
    { lenLL := rfl, lenD := rfl, lenCL := rfl, codeLL := usableLL.codes, codeD := usableD.codes, codeCL := usableCL.codes
      countLL := rfl, countD := rfl, countCL := trimmed_spec (by decide) fun i => lensCL.getD (clOrder.getD i 0) 0
      rle := rfl, freqCL := rfl, frame := rfl }

end

/-! ## The header (R95, R240) -/

theorem fieldBits_flatten (fss : List (List (Nat × Nat))) : fieldBits fss.flatten = (fss.map fieldBits).flatten := by
  induction fss with
  | nil => rfl
  | cons fs fss ih => rw [List.flatten_cons, fieldBits_append, ih, List.map_cons, List.flatten_cons]

/-- The header of a dynamic block, in the order of R95. -/
theorem fieldBits_headerFields (u : State) :
    fieldBits (headerFields u) =
      [true, false, true] ++ lsbBits (u.enc.hlit - 257) 5 ++ lsbBits (u.enc.hdist - 1) 5 ++ lsbBits (u.enc.hclen - 4) 4 ++
      ((clOrder.take u.enc.hclen).map fun sym => lsbBits (u.lenCL.entries.getD sym 0) 3).flatten ++
      (u.rle.map fun e => lsbBits (u.codeCL.entries.getD e.symbol 0) (u.lenCL.entries.getD e.symbol 0) ++
        lsbBits e.value e.bits).flatten := by
  rw [headerFields, fieldBits_append, fieldBits_append, fieldBits_flatten, List.map_map]
  have counts (a b c : Nat) : fieldBits [(1, 1), (2, 2), (a, 5), (b, 5), (c, 4)] =
      [true, false, true] ++ lsbBits a 5 ++ lsbBits b 5 ++ lsbBits c 4 := by
    have first : lsbBits 1 1 ++ lsbBits 2 2 = [true, false, true] := rfl
    rw [← first]
    simp [fieldBits]
  have lengths : fieldBits ((clOrder.take u.enc.hclen).map fun sym => (u.lenCL.entries.getD sym 0, 3)) =
      ((clOrder.take u.enc.hclen).map fun sym => lsbBits (u.lenCL.entries.getD sym 0) 3).flatten := by
    rw [fieldBits, List.map_map]; rfl
  rw [counts, lengths]
  refine congrArg (_ ++ List.flatten ·) (List.map_congr_left fun e _ => ?_)
  simp [fieldBits]

theorem getD_le_of_forall {l : List Nat} {b : Nat} (h : ∀ x ∈ l, x ≤ b) (i : Nat) : l.getD i 0 ≤ b := by
  rcases Nat.lt_or_ge i l.length with inside | out
  · rw [List.getD_eq_getElem _ _ inside]
    exact h _ (List.getElem_mem _)
  · rw [List.getD_eq_default _ _ out]
    exact Nat.zero_le b

/-- Every field of the header fits its width. -/
theorem headerFields_fit {lensLL lensD lensCL : List Nat} {hlit hdist : Nat} {s u : State}
    (h : DynamicTables lensLL lensD lensCL hlit hdist s u) (high : hlit ≤ 286) (highD : hdist ≤ 30)
    (boundLL : ∀ l ∈ lensLL, l ≤ 15) (boundD : ∀ l ∈ lensD, l ≤ 7) (boundCL : ∀ l ∈ lensCL, l ≤ 7)
    (sizeCL : lensCL.length = 19) : ∀ f ∈ headerFields u, f.2 ≤ 32 ∧ f.1 < 2 ^ f.2 := by
  obtain ⟨-, highCL, -, -⟩ := h.countCL
  have len (i : Nat) : u.lenCL.entries.getD i 0 ≤ 7 := getD_le_of_forall (by rw [h.lenCL]; exact boundCL) i
  have entry {e : RleEntry} (mem : e ∈ u.rle) : e.ranged := by
    rw [h.rle] at mem
    refine ranged_of_mem_rleOf (fun v hv => ?_) mem
    rcases List.mem_append.mp hv with hv | hv
    · exact boundLL v (List.mem_of_mem_take hv)
    · exact (boundD v (List.mem_of_mem_take hv)).trans (by decide)
  have fields : ∀ f ∈ [(1, 1), (2, 2), (u.enc.hlit - 257, 5), (u.enc.hdist - 1, 5), (u.enc.hclen - 4, 4)],
      f.2 ≤ 32 ∧ f.1 < 2 ^ f.2 := by
    rw [h.countLL, h.countD]
    simp only [List.forall_mem_cons, List.not_mem_nil, false_imp_iff, implies_true, and_true]
    omega
  rw [headerFields]
  refine List.forall_mem_append.mpr ⟨List.forall_mem_append.mpr ⟨fields, fun f hf => ?_⟩, fun f hf => ?_⟩
  · obtain ⟨sym, -, rfl⟩ := List.mem_map.mp hf
    exact ⟨(by decide : 3 ≤ 32), Nat.lt_succ_of_le (len sym)⟩
  · obtain ⟨fs, hfs, hf⟩ := List.mem_flatten.mp hf
    obtain ⟨e, mem, rfl⟩ := List.mem_map.mp hfs
    obtain ⟨symbol, bits, value⟩ := (entry mem).bounds
    rcases List.mem_cons.mp hf with rfl | hf
    · have code := ccbCodes_lt h.codeCL (i := e.symbol) (by omega)
      rw [← h.lenCL] at code
      exact ⟨(len _).trans (by decide), code⟩
    · rw [List.mem_singleton.mp hf]
      exact ⟨bits.trans (by decide), value⟩

/-! ## ENC.DYNAMIC (R240) -/

/-- A token whose symbols occur is coded in the block's tables. -/
theorem CountedIn.coded {p : Config.Params} {freqLL freqD lensLL lensD lensCL : List Nat} {hlit hdist : Nat} {s u : State}
    (h : DynamicTables lensLL lensD lensCL hlit hdist s u) (usableLL : Usable p freqLL 15 lensLL)
    (usableD : Usable p freqD 7 lensD) {t : Token} (counted : CountedIn freqLL freqD t) : t.Coded u := by
  have litLen {k : Nat} : 0 < freqLL.getD k 0 → Coded u.lenLL u.codeLL k := usableLL.coded h.lenLL h.codeLL le_rfl
  cases t with
  | lit b => exact litLen counted
  | eob => exact litLen counted
  | copy lc le lv dc de dv =>
    exact ⟨litLen counted.1, usableD.coded h.lenD h.codeD (by decide) counted.2⟩

/-- Settles O39: the tables, the header, then the matcher's tokens, whose symbols all have codes because they occur. -/
theorem encDynamicWritesOneDynamicBlock : Obligations.EncDynamicWritesOneDynamicBlock := by
  refine ⟨rfl, fun s lensLL lensD lensCL hlit hdist hf grain inside => ?_⟩
  intro run usable usableLL usableD trimLL trimD usableCL
  obtain ⟨body, emits, chosen⟩ := matchRun_emits s.inMem.bytes s.cfg.lazy s.lzm
  have ranged := chosen.ranged
  obtain ⟨sizeLL, sizeD, counted⟩ := emits.counted (ranged_of_body ranged)
  obtain ⟨u, built, tables⟩ := dynamicTables_built (s := lzmRun (bwInit (beginCommand true s))) usableLL usableD trimLL trimD
    usableCL
  have sizeCL : lensCL.length = 19 := by rw [usableCL.2.1, rleFreq, List.length_map, List.length_range]; rfl
  have bw : u.bw = (bwInit (beginCommand true s)).bw := (congrArg State.bw tables.frame :)
  have tok : u.tok = run.tok := (congrArg State.tok tables.frame :)
  obtain ⟨w, header, wrote⟩ := writeFields_wrote (s := u) (fields := headerFields u) (by rw [bw]; rfl)
    (by rw [bw]; exact bwInit_bounded _)
    (headerFields_fit tables trimLL.2.1 trimD.2.1 usableLL.2.2.2.1 usableD.2.2.2.1 usableCL.2.2.2.1 sizeCL)
  let v := startPacking { u with bw := w }
  have begun : exec .encDynamic s = settle v := by
    rw [exec, execEncDynamic, framed_runs hf, startDynamic, built]
    dsimp only
    rw [header]
    rfl
  have coded (t : Token) (ht : t ∈ body ++ [Token.eob]) : t.Coded v ∧ t.blockBits v = t.blockBits u := by
    have h := CountedIn.coded tables usableLL usableD (counted t ht)
    cases t <;> exact ⟨h, rfl⟩
  rw [bw] at wrote
  obtain ⟨bs, pad, w', m, packed, few, closed, index, outside, shown⟩ := settle_packs (s := beginCommand true s) (v := v) rfl
    ((congrArg State.grain tables.frame :).trans grain) wrote inside rfl (tok.trans emits.tok) ranged
    fun t ht => (coded t ht).1
  rw [List.map_congr_left fun t ht => (coded t ht).2, fieldBits_headerFields, tables.countLL, tables.countD,
    tables.lenCL] at shown
  have frame := tables.frame
  refine ⟨_, bs, body ++ [Token.eob], pad, begun.trans packed, rfl, closed, index, outside, tables.lenLL, tables.lenD,
    tables.lenCL, tables.codeLL, tables.codeD, tables.codeCL, (congrArg (fun u : State => u.freqLL.entries) frame :),
    (congrArg (fun u : State => u.freqD.entries) frame :), tables.freqCL, tables.countLL, tables.countD, tables.countCL,
    tables.rle, tok, tok.trans emits.tok, ranged_of_body ranged, few, shown, ?_⟩
  generalize u.lenLL = a, u.lenD = b, u.lenCL = c, u.codeLL = d, u.codeD = e, u.codeCL = f, u.rle = g, u.freqCL = h,
    u.enc = k at frame
  subst frame
  rfl

end Sys2Proof.Machine
end

section
/-! PROOFS. The commands of the bit writer (R140, R142): BW.INIT lays the caller's buffer in OUT, BW.WRITE appends to W. -/

namespace Sys2Proof.Machine

/-! ## BW.INIT -/

theorem exec_bwInit {s : State} (hf : s.status.fault = none) :
    exec .bwInit s = .next { s.ended .none with bw := (bwInit s).bw } := by
  rw [exec, execBwInit, framed_runs hf]
  rfl

/-- Settles O17: OUT is the caller's buffer, laid out from address 0. -/
theorem bwInitOpensTheWriter : Obligations.BwInitOpensTheWriter := by
  refine ⟨rfl, fun s hf => ⟨_, exec_bwInit hf, rfl, fun a => ?_⟩⟩
  have read := Memory.read_ofBytes 0 a (s.cfg.outputBuffer.getD [])
  rwa [Nat.zero_add] at read

/-! ## BW.WRITE -/

theorem exec_bwWrite {s : State} (hf : s.status.fault = none) (value n : Nat) (reversed : Bool) :
    exec (.bwWrite value n reversed) s =
      conclude ((bwWrite value n reversed (beginCommand false s)).map (answer .none)) := by
  rw [exec, execBwWrite, framed_runs hf]

/-- The order of the bits is the order of the value that is pushed, top bit first (R142). -/
theorem msbBits_pushed (value n : Nat) (reversed : Bool) :
    msbBits (if reversed then revBits n value else value) n =
      if reversed then lsbBits value n else msbBits value n := by
  cases reversed with
  | true => exact msbBits_revBits value n
  | false => rfl

/-- Settles O18: the bits pushed, one after another, are the value's. -/
theorem bwWriteAppendsTheBits : Obligations.BwWriteAppendsTheBits := by
  refine ⟨fun o => rfl, fun s value n reversed hf => ⟨fun ho hn hv => ?_, fun bad => ?_⟩⟩
  · have run := exec_bwWrite hf value n reversed
    rw [bwWrite_ok (s := beginCommand false s) ho hn hv] at run
    refine ⟨_, run, rfl, (Writer.pushBits_isOpen ..).trans ho, fun bounded off below => ?_⟩
    have wrote := Writer.pushBits_wrote bounded (if reversed then revBits n value else value) n
    rw [msbBits_pushed] at wrote
    exact ⟨wrote.bounded, wrote.onward, wrote.appended off below, wrote.frame⟩
  · refine .of_exec (t := beginCommand false s) ?_ rfl
    rw [exec_bwWrite hf, bwWrite_error (s := beginCommand false s) bad]
    rfl

end Sys2Proof.Machine
end

section
/-! PROOFS. The commands of the bit reader (R145 to R152). While the reader stands in its input, BR.READ and BR.DECODE either
consume the bits they answer or end EXHAUSTED with BR.P where it was; either way the saved cursor stays. -/

namespace Sys2Proof.Machine

/-! ## BR.INIT -/

theorem brInit_inside {s : State} (inside : s.cfg.startOffset ≤ s.inMem.length) :
    brInit s = .ok
      { s with
        br := { s.br with ip := s.cfg.startOffset, acc := 0, acclen := 0, inputLength := s.inMem.length }
        inKept := true } := if_pos inside

theorem brInit_beyond {s : State} (beyond : s.inMem.length < s.cfg.startOffset) :
    brInit s = .error (raise .eApi s.cfg.startOffset s) := if_neg (Nat.not_le.mpr beyond)

theorem exec_brInit {s : State} (hf : s.status.fault = none) :
    exec .brInit s = conclude ((brInit (beginCommand false s)).map (answer .none)) := by
  rw [exec, execBrInit, framed_runs hf]

/-- Settles O20: by whether the start offset lies in IN. -/
theorem brInitStartsTheReader : Obligations.BrInitStartsTheReader := by
  refine ⟨rfl, fun s hf => ⟨fun inside => ?_, fun beyond => .of_exec (t := beginCommand false s) ?_ rfl⟩⟩
  · rw [exec_brInit hf, brInit_inside (s := beginCommand false s) inside]
    rfl
  · rw [exec_brInit hf, brInit_beyond (s := beginCommand false s) beyond]
    rfl

/-! ## BR.ALIGN -/

/-- Aligning moves BR.P to the next byte boundary (R150). -/
theorem Reader.align_pos {r : Reader} (behind : r.acclen ≤ 8 * r.ip) : r.align.pos = 8 * ((r.pos + 7) / 8) := by
  simp only [Reader.align, Reader.drop, Reader.pos]
  omega

/-- Settles O24: the bits dropped are those above the whole bytes held. -/
theorem brAlignReachesTheByteBoundary : Obligations.BrAlignReachesTheByteBoundary := by
  refine ⟨rfl, fun s hf => ⟨{ s.ended .none with br := s.br.align }, ?_, ?_, Reader.align_pos, fun h => ?_⟩⟩
  · rw [exec, execBrAlign, framed_runs hf]
    rfl
  · simp only [Reader.align, Reader.drop, Nat.shiftRight_eq_div_pow]
  · exact (align_consumed h).1.of_fields rfl rfl rfl

/-! ## BR.READ -/

/-- A host's command that runs out of bits (R341). -/
theorem exhausted_of_idle {s : State} (h : s.seq = .idle) :
    exhausted s = { s with status := { s.status with needInput := true }, result := .exhausted, seq := .idle } := by
  unfold exhausted; rw [h]

theorem exec_brRead {s : State} (hf : s.status.fault = none) (h : s.Reading) {n : Nat} (hn : n ≤ 16) :
    exec (.brRead n) s =
      conclude ((readBits n { beginCommand false s with seq := .idle }).map fun x => answer (.value x.1) x.2) := by
  rw [exec, execBrRead, framed_runs hf, if_neg (Nat.not_lt.mpr hn),
    withInput_runs (s := beginCommand false s) h.kept h.length]
  cases readBits n { beginCommand false s with seq := .idle } <;> rfl

/-- BR.READ with enough bits left (R147). -/
theorem exec_brRead_takes {s : State} (hf : s.status.fault = none) (h : s.Reading) {n : Nat} (hn : n ≤ 16)
    (ha : n ≤ s.avail) :
    ∃ t, exec (.brRead n) s = .next t ∧ t = { s.ended (.value (s.inMem.field s.br.pos n)) with br := t.br } ∧
      s.Consumed n t := by
  let u : State := { beginCommand false s with seq := .idle }
  obtain ⟨r, read, consumed⟩ := readBits_takes (s := u) hn (h.of_fields rfl rfl rfl) ha
  refine ⟨answer (.value (s.inMem.field s.br.pos n)) { u with br := r }, ?_, rfl, consumed.of_fields rfl rfl rfl rfl⟩
  rw [exec_brRead hf h hn, read]
  rfl

/-- BR.READ with too few bits left (R148). -/
theorem exec_brRead_exhausted {s : State} (hf : s.status.fault = none) (h : s.Reading) {n : Nat} (hn : n ≤ 16)
    (short : s.avail < n) :
    ∃ t, exec (.brRead n) s = .next t ∧
      t = { s.ended .exhausted with br := t.br, status := { s.status with needInput := true } } ∧ s.Consumed 0 t := by
  let u : State := { beginCommand false s with seq := .idle }
  obtain ⟨loaded, -⟩ := refill_consumed (s := u) hn (h.of_fields rfl rfl rfl)
  have few := loaded.1.acclen_le_avail.trans_eq loaded.avail
  have run : exec (.brRead n) s = .next (exhausted { u with br := u.br.refill u.inMem n n }) := by
    rw [exec_brRead hf h hn, readBits, if_pos (few.trans_lt short)]
    rfl
  rw [exhausted_of_idle rfl] at run
  exact ⟨_, run, rfl, loaded.of_fields rfl rfl rfl rfl⟩

/-- Settles O21: by how many bits are left. -/
theorem brReadReturnsTheNextBits : Obligations.BrReadReturnsTheNextBits := by
  refine ⟨fun o => rfl, fun s n hf => ⟨fun h => exec_brRead_takes hf h, fun h => exec_brRead_exhausted hf h, ?_⟩⟩
  intro wide
  refine .of_exec (t := beginCommand false s) ?_ rfl
  rw [exec, execBrRead, framed_runs hf, if_pos wide]

/-! ## BR.DECODE -/

theorem decode_entry (e : Entry) :
    ∃ cl sym : BitVec 16, decode { format := .dte, word := e.toNat } = .ok (.dte cl sym) ∧ cl.toNat = entryLength e ∧
      sym.toNat = entrySymbol e := by
  refine ⟨_, _, if_pos e.isLt, ?_, BitVec.toNat_ofNat ..⟩
  have high : e.toNat / 2 ^ 16 < 2 ^ 16 := by have := e.isLt; omega
  exact (BitVec.toNat_ofNat ..).trans (Nat.mod_eq_of_lt high)

theorem consumeEntry_exhausted {index maxLen cl sym : Nat} {s : State}
    (short : cl = 0 ∧ s.br.acclen < maxLen ∨ cl ≠ 0 ∧ s.br.acclen < cl) :
    consumeEntry index maxLen cl sym s = .error (exhausted s) := by
  unfold consumeEntry
  rcases short with ⟨unfilled, missing⟩ | ⟨filled, missing⟩
  · rw [if_pos unfilled, if_pos missing]
  · rw [if_neg filled, if_pos missing]

theorem consumeEntry_unfilled {index maxLen cl sym : Nat} {s : State} (unfilled : cl = 0) (whole : maxLen ≤ s.br.acclen) :
    consumeEntry index maxLen cl sym s = .error (raise .eCode index s) := by
  rw [consumeEntry, if_pos unfilled, if_neg (Nat.not_lt.mpr whole)]

theorem consumeEntry_takes {index maxLen cl sym : Nat} {s : State} (filled : cl ≠ 0) (held : cl ≤ s.br.acclen) :
    consumeEntry index maxLen cl sym s = .ok (sym, { s with br := s.br.drop cl }) := by
  rw [consumeEntry, if_neg filled, if_neg (Nat.not_lt.mpr held)]

/-- The one turn of BR.DECODE executes the entry found (R149). -/
theorem settle_lookup {s : State} {index maxLen : Nat} {e : Entry} (hg : s.grain = .command)
    (h : s.seq = .lookup index maxLen e) :
    settle s = conclude ((consumeEntry index maxLen (entryLength e) (entrySymbol e) s).map
      fun x => answer (.symbol x.1) x.2) := by
  obtain ⟨cl, sym, hi, length, symbol⟩ := decode_entry e
  have busy : s.seq ≠ .idle := by rw [h]; exact Seq.noConfusion
  have fetched : fetchElement s = .ok ({ format := .dte, word := e.toNat }, s) := by simp only [fetchElement, h]
  have run : execElement (.dte cl sym) s = _ := exec_dte h cl sym
  rw [length, symbol] at run
  have ends := consumeEntry_meets index maxLen (entryLength e) (entrySymbol e) s
  have reaches (t : State) (ht : execElement (.dte cl sym) s = .next t) (idle : t.seq = .idle) : settle s = .next t := by
    obtain ⟨u, hu, rfl⟩ := settle_of_reaches (P := (· = t)) hg
      (.turn (.of_fetched busy fetched hi ht) (.of_holds ⟨idle, rfl⟩))
    exact hu
  cases found : consumeEntry index maxLen (entryLength e) (entrySymbol e) s with
  | error t => rw [found] at run; exact reaches t run (ends.of_error found).idle
  | ok x => rw [found] at run; exact reaches _ run rfl

/-- BR.DECODE after its table lookup (R149). -/
def State.lookedUp (t : DecodeTable) (s : State) : State :=
  { beginCommand false s with
    br := s.br.refill s.inMem t.maxLen t.maxLen, seq := .lookup (s.slot t) t.maxLen (s.entry t) }

/-- The lookup leaves the table's bits or all there are. -/
theorem lookedUp_acclen {s : State} (h : s.Reading) {t : DecodeTable} (ht : t.maxLen ≤ 15) :
    min t.maxLen s.avail ≤ (s.lookedUp t).br.acclen ∧ (s.lookedUp t).br.acclen ≤ s.avail := by
  obtain ⟨loaded, held⟩ := lookupEntry_consumed ht h
  exact ⟨held, loaded.1.acclen_le_avail.trans_eq loaded.avail⟩

section
variable {s : State} {t : DecodeTable} (hf : s.status.fault = none) (hg : s.grain = .command)
  (made : madeByBuilder t s = true) (h : s.Reading) (ht : t.maxLen ≤ 15)

include hf hg made h ht

theorem exec_brDecode :
    exec (.brDecode t) s =
      conclude ((consumeEntry (s.slot t) t.maxLen (entryLength (s.entry t)) (entrySymbol (s.entry t)) (s.lookedUp t)).map
        fun x => answer (.symbol x.1) x.2) := by
  have made : madeByBuilder t (beginCommand false s) = true := made
  have look := lookupEntry_eq (s := beginCommand false s) ht (h.of_fields rfl rfl rfl)
  rw [exec, execBrDecode, framed_runs hf, if_pos made, withInput_runs (s := beginCommand false s) h.kept h.length, look]
  exact settle_lookup (s := s.lookedUp t) hg rfl

/-- BR.DECODE that ends EXHAUSTED leaves BR.P where it was (R148). -/
theorem exec_brDecode_exhausted
    (short : entryLength (s.entry t) = 0 ∧ (s.lookedUp t).br.acclen < t.maxLen ∨
      entryLength (s.entry t) ≠ 0 ∧ (s.lookedUp t).br.acclen < entryLength (s.entry t)) :
    ∃ u, exec (.brDecode t) s = .next u ∧
      u = { s.ended .exhausted with br := u.br, status := { s.status with needInput := true } } ∧ s.Consumed 0 u := by
  have run := exec_brDecode hf hg made h ht
  rw [consumeEntry_exhausted short, exhausted_of_lookup rfl] at run
  exact ⟨_, run, rfl, (lookupEntry_consumed ht h).1.of_fields rfl rfl rfl rfl⟩

theorem exec_brDecode_unfilled (unfilled : entryLength (s.entry t) = 0) (whole : t.maxLen ≤ (s.lookedUp t).br.acclen) :
    exec (.brDecode t) s = .next (raise .eCode (s.slot t) (s.lookedUp t)) := by
  rw [exec_brDecode hf hg made h ht, consumeEntry_unfilled unfilled whole]
  rfl

/-- BR.DECODE that finds a symbol consumes its code (R149). -/
theorem exec_brDecode_takes (filled : entryLength (s.entry t) ≠ 0)
    (held : entryLength (s.entry t) ≤ (s.lookedUp t).br.acclen) :
    ∃ u, exec (.brDecode t) s = .next u ∧ u = { s.ended (.symbol (entrySymbol (s.entry t))) with br := u.br } ∧
      s.Consumed (entryLength (s.entry t)) u := by
  have run := exec_brDecode hf hg made h ht
  rw [consumeEntry_takes filled held] at run
  have loaded := (lookupEntry_consumed ht h).1
  have consumed := loaded.trans (drop_consumed loaded.1 held)
  rw [Nat.zero_add] at consumed
  exact ⟨_, run, rfl, consumed.of_fields rfl rfl rfl rfl⟩

end

/-- The slot read is one of the table's, or an unfilled one. -/
theorem entryLength_entry_le {t : DecodeTable} {m : Nat} (fit : ∀ e ∈ t.table, entryLength e ≤ m) (s : State) :
    entryLength (s.entry t) ≤ m := by
  rw [State.entry, List.getD_eq_getElem?_getD]
  cases slot : t.table[s.slot t]? with
  | none => exact Nat.zero_le m
  | some e => exact fit e (List.mem_of_getElem? slot)

/-- Settles O22: by the entry found and the bits that are there for its code. -/
theorem brDecodeConsumesOneCode : Obligations.BrDecodeConsumesOneCode := by
  refine fun s t hf hg => ⟨fun foreign => .of_exec (t := beginCommand false s) ?_ rfl, fun made h ht fit => ?_⟩
  · have foreign : madeByBuilder t (beginCommand false s) ≠ true := ne_true_of_eq_false foreign
    rw [exec, execBrDecode, framed_runs hf, if_neg foreign]
  obtain ⟨held, most⟩ := lookedUp_acclen h ht
  refine ⟨fun unfilled missing => ?_, fun unfilled whole => ?_, fun filled short => ?_, fun filled enough => ?_⟩
  · exact exec_brDecode_exhausted hf hg made h ht (.inl ⟨unfilled, by omega⟩)
  · exact .of_exec (exec_brDecode_unfilled hf hg made h ht unfilled (by omega)) rfl
  · exact exec_brDecode_exhausted hf hg made h ht (.inr ⟨filled, most.trans_lt short⟩)
  · exact exec_brDecode_takes hf hg made h ht filled ((le_min (entryLength_entry_le fit s) enough).trans held)

/-! ## BR.SAVE and BR.RESTORE -/

/-- A reader on the same input that has saved `r`'s cursor stands, when that comes back, where `r` stood (R152). -/
theorem Reader.Stands.back {m : Memory} {r r' : Reader} (h : r.Stands m)
    (cursor : r'.save = { ip := r.ip, acc := r.acc, acclen := r.acclen }) (length : r'.inputLength = r.inputLength) :
    r'.back.Stands m ∧ r'.back.pos = r.pos := by
  have back : r'.back = { r with save := r'.save, saved := r'.saved } := by rw [Reader.back, cursor, length]
  rw [back]
  exact ⟨⟨h.bytes, h.within, h.behind, h.width, h.held⟩, rfl⟩

theorem exec_brSave {s : State} (hf : s.status.fault = none) :
    exec .brSave s = .next { s.ended .none with br := s.br.keep } := by
  rw [exec, execBrSave, framed_runs hf]
  rfl

/-- Settles O25: what is kept are the three cursor registers. -/
theorem brSaveRecordsTheCursor : Obligations.BrSaveRecordsTheCursor := ⟨rfl, fun _ => exec_brSave⟩

theorem exec_brRestore {s : State} (hf : s.status.fault = none) (saved : s.br.saved = true) :
    exec .brRestore s = .next { s.ended .none with br := s.br.back } := by
  have saved : (beginCommand false s).br.saved = true := saved
  rw [exec, execBrRestore, framed_runs hf, if_pos saved]
  rfl

/-- A read, successful or not, leaves IN and takes no fault. -/
theorem exec_brRead_keeps {s t : State} (hf : s.status.fault = none) (h : s.Reading) {n : Nat} (hn : n ≤ 16)
    (run : exec (.brRead n) s = .next t) :
    t.status.fault = none ∧ t.inMem = s.inMem ∧ ∃ k, s.Consumed k t := by
  rcases le_or_gt n s.avail with enough | short
  · obtain ⟨u, hu, frame, consumed⟩ := exec_brRead_takes hf h hn enough
    cases run.symm.trans hu
    exact ⟨by rw [frame]; exact hf, by rw [frame]; rfl, n, consumed⟩
  · obtain ⟨u, hu, frame, consumed⟩ := exec_brRead_exhausted hf h hn short
    cases run.symm.trans hu
    exact ⟨by rw [frame]; exact hf, by rw [frame]; rfl, 0, consumed⟩

/-- Settles O26: a read moves the reader but not the cursor saved before it. -/
theorem brRestoreReturnsToTheSavedCursor : Obligations.BrRestoreReturnsToTheSavedCursor := by
  refine ⟨rfl, fun s hf => ⟨exec_brRestore hf, fun none => .of_exec (t := beginCommand false s) ?_ rfl⟩, ?_⟩
  · have none : (beginCommand false s).br.saved ≠ true := ne_true_of_eq_false none
    rw [exec, execBrRestore, framed_runs hf, if_neg none]
  intro s t u v n hf h save hn read restore
  cases save.symm.trans (exec_brSave hf)
  let t : State := { s.ended .none with br := s.br.keep }
  have kept : t.Reading :=
    (h.with_reader (r := s.br.keep) ⟨h.bytes, h.within, h.behind, h.width, h.held⟩ rfl).of_fields rfl rfl rfl
  obtain ⟨clear, inMem, k, reading, -, length, cursor, saved⟩ := exec_brRead_keeps (s := t) hf kept hn read
  cases restore.symm.trans (exec_brRestore clear saved)
  obtain ⟨stands, pos⟩ := h.stands.back cursor length
  exact ⟨pos, (reading.with_reader (r := u.br.back) (inMem ▸ stands) rfl).of_fields rfl rfl rfl⟩

end Sys2Proof.Machine
end

section
/-! PROOFS. HTB.BUILD (R160 to R168). A slot of the table is filled where its bits, read first to last, make a number below
the last HTB.code, and then by the symbol whose canonical code those bits begin with. -/

namespace Sys2Proof.Machine

/-! ## The measures of a length array (R161) -/

/-- A running choice ends with one of what it has seen. -/
theorem foldl_mem_cons {f : Nat → Nat → Nat} (pick : ∀ x y, f x y = x ∨ f x y = y) (m : Nat) (lens : List Nat) :
    lens.foldl f m ∈ m :: lens := by
  induction lens generalizing m with
  | nil => exact List.mem_singleton_self m
  | cons l lens ih =>
    rw [List.foldl_cons]
    rcases List.mem_cons.mp (ih (f m l)) with first | later
    · rw [first]
      rcases pick m l with e | e <;> simp [e]
    · exact List.mem_cons_of_mem _ (List.mem_cons_of_mem _ later)

theorem maxLen_mem (lens : List Nat) : maxLen lens = 0 ∨ maxLen lens ∈ lens :=
  List.mem_cons.mp (foldl_mem_cons max_choice 0 lens)

/-- The smaller of two lengths, of which 0 stands for none: the step of `minLen`. -/
def shorter (m l : Nat) : Nat := if l = 0 then m else if m = 0 then l else min m l

theorem shorter_choice (m l : Nat) : shorter m l = m ∨ shorter m l = l := by unfold shorter; grind

theorem shorter_le {m l : Nat} :
    (m ≠ 0 → shorter m l ≠ 0 ∧ shorter m l ≤ m) ∧ (l ≠ 0 → shorter m l ≠ 0 ∧ shorter m l ≤ l) := by
  unfold shorter; grind

theorem foldl_shorter_le (m : Nat) (lens : List Nat) {x : Nat} (hx : x ∈ m :: lens) (some : x ≠ 0) :
    lens.foldl shorter m ≠ 0 ∧ lens.foldl shorter m ≤ x := by
  induction lens generalizing m x with
  | nil => cases List.mem_singleton.mp hx; exact ⟨some, le_rfl⟩
  | cons l lens ih =>
    have first (hs : shorter m l ≠ 0 ∧ shorter m l ≤ x) := (ih _ List.mem_cons_self hs.1).imp_right (·.trans hs.2)
    rcases List.mem_cons.mp hx with rfl | hx
    · exact first (shorter_le.1 some)
    rcases List.mem_cons.mp hx with rfl | hx
    · exact first (shorter_le.2 some)
    · exact ih _ (List.mem_cons_of_mem _ hx) some

theorem minLen_mem (lens : List Nat) : minLen lens = 0 ∨ minLen lens ∈ lens :=
  List.mem_cons.mp (foldl_mem_cons shorter_choice 0 lens)

theorem minLen_le {lens : List Nat} {l : Nat} (h : l ∈ lens) (some : l ≠ 0) : minLen lens ≠ 0 ∧ minLen lens ≤ l :=
  foldl_shorter_le 0 lens (List.mem_cons_of_mem _ h) some

/-- Both measures are 0 exactly where no symbol has a code. -/
theorem minLen_eq_zero_iff (lens : List Nat) : minLen lens = 0 ↔ maxLen lens = 0 := by
  constructor
  · intro none
    by_contra some
    exact (minLen_le ((maxLen_mem lens).resolve_left some) some).1 none
  · intro none
    rcases minLen_mem lens with zero | there
    · exact zero
    · exact Nat.eq_zero_of_le_zero (none ▸ le_maxLen there)

/-! ## Which slots are filled (R162) -/

theorem exists_count_take_eq {l : List Nat} {x c : Nat} (h : c < l.count x) :
    ∃ k : Nat, l[k]? = some x ∧ (l.take k).count x = c := by
  induction l generalizing c with
  | nil => simp at h
  | cons y l ih =>
    by_cases hy : y = x
    · subst hy
      cases c with
      | zero => exact ⟨0, rfl, rfl⟩
      | succ c =>
        rw [List.count_cons_self] at h
        obtain ⟨k, hk, count⟩ := ih (Nat.lt_of_succ_lt_succ h)
        exact ⟨k + 1, hk, by rw [List.take_succ_cons, List.count_cons_self, count]⟩
    · rw [List.count_cons_of_ne hy] at h
      obtain ⟨k, hk, count⟩ := ih h
      exact ⟨k + 1, hk, by rw [List.take_succ_cons, List.count_cons_of_ne hy, count]⟩

theorem revBits_succ_lt_iff (n v c : Nat) : revBits (n + 1) v < c * 2 ↔ revBits n v < c := by
  rw [revBits_succ_last]
  have := (v.testBit n).toNat_le
  omega

theorem mul_two_le_revBits_succ_iff (n v c : Nat) : c * 2 ≤ revBits (n + 1) v ↔ c ≤ revBits n v := by
  simpa only [Nat.not_lt] using (revBits_succ_lt_iff n v c).not

/-- A slot is below the first code of length `bl + n` where it was below that of length `bl` already or its bits begin with a
code of a length between. -/
theorem code_of_revBits_lt_firstCode (lens : List Nat) (j : Nat) {bl n c : Nat}
    (h : revBits (bl + n) j < firstCode lens bl c (bl + n)) :
    revBits bl j < c ∨ ∃ k l : Nat, lens[k]? = some l ∧ bl ≤ l ∧ l < bl + n ∧
      revBits l j = firstCode lens bl c l + (lens.take k).count l := by
  induction n generalizing bl c with
  | zero => rw [Nat.add_zero, firstCode_self] at h; exact .inl h
  | succ n ih =>
    rw [← firstCode_next _ _ (by omega), show bl + (n + 1) = bl + 1 + n by omega] at h
    rcases ih h with below | ⟨k, l, hk, low, high, code⟩
    · have below := (revBits_succ_lt_iff bl j _).mp below
      rcases Nat.lt_or_ge (revBits bl j) c with old | new
      · exact .inl old
      · obtain ⟨k, hk, count⟩ := exists_count_take_eq (c := revBits bl j - c) (l := lens) (x := bl) (by omega)
        exact .inr ⟨k, bl, hk, le_rfl, by omega, by rw [firstCode_self, count]; omega⟩
    · rw [firstCode_next _ _ (by omega)] at code
      exact .inr ⟨k, l, hk, by omega, by omega, code⟩

/-- A slot that is not below the first code of length `bl + n` was not below that of length `bl`. -/
theorem le_revBits_of_firstCode_le (lens : List Nat) (j : Nat) {bl n c : Nat}
    (h : firstCode lens bl c (bl + n) ≤ revBits (bl + n) j) : c ≤ revBits bl j := by
  induction n generalizing bl c with
  | zero => rwa [Nat.add_zero, firstCode_self] at h
  | succ n ih =>
    rw [← firstCode_next _ _ (by omega), show bl + (n + 1) = bl + 1 + n by omega] at h
    exact (Nat.le_add_right ..).trans ((mul_two_le_revBits_succ_iff bl j _).mp (ih h))

theorem placeSymbols_above {bl i : Nat} {lens : List Nat} {b b' : Build} (h : placeSymbols bl i lens b = .ok b') {j : Nat}
    (hj : b'.code ≤ revBits bl j) : b'.table[j]? = b.table[j]? := by
  induction lens generalizing i b with
  | nil => cases h; rfl
  | cons l lens ih =>
    by_cases hl : l = bl
    · subst hl
      by_cases full : 2 ^ l ≤ b.code
      · rw [placeSymbols_full full] at h; cases h
      · have room := Nat.lt_of_not_le full
        rw [placeSymbols_fits room] at h
        have code := (placeSymbols_placed h).code
        have other : revBits l j ≠ b.code := by simp only [Build.place] at code; omega
        rw [ih h, Build.getElem?_place room]
        simp [other]
    · rw [placeSymbols_other hl] at h
      exact ih h

/-- The last HTB.code; the slots from it on are left as they were. -/
theorem placeLengths_above {lens : List Nat} {bl n : Nat} {b b' : Build} (h : placeLengths lens bl n b = .ok b') :
    b'.code = firstCode lens bl b.code (bl + n) ∧
      ∀ j, b'.code ≤ revBits (bl + n) j → b'.table[j]? = b.table[j]? := by
  induction n generalizing bl b with
  | zero => cases h; exact ⟨(firstCode_self ..).symm, fun _ _ => rfl⟩
  | succ n ih =>
    cases hp : placeSymbols bl 0 lens b with
    | error i => rw [placeLengths, hp] at h; cases h
    | ok b1 =>
      have code := (placeSymbols_placed hp).code
      obtain ⟨last, above⟩ := ih ((placeLengths_succ hp).mp h)
      rw [show bl + 1 + n = bl + (n + 1) by omega] at last above
      refine ⟨by rw [last, code, firstCode_next _ _ (by omega)], fun j hj => ?_⟩
      have later := le_revBits_of_firstCode_le lens j (bl := bl + 1) (n := n) (c := b1.code * 2)
        (by rw [show bl + 1 + n = bl + (n + 1) by omega]; exact last ▸ hj)
      rw [above j hj, placeSymbols_above hp ((mul_two_le_revBits_succ_iff bl j _).mp later)]

section
variable {lens : List Nat} {t : DecodeTable} {c : Nat} (h : htbBuild lens = .ok (t, c))
include h

theorem htbBuild_measures : t.maxLen = maxLen lens ∧ t.minLen = minLen lens ∧ t.table.length = 2 ^ maxLen lens := by
  obtain ⟨table, placed, rfl⟩ := htbBuild_ok_iff.mp h
  exact ⟨rfl, rfl, by simpa using (placeLengths_table placed).1⟩

/-- The last HTB.code: twice the number of slots that are filled. -/
theorem htbBuild_code : c = firstCode lens 1 0 (1 + maxLen lens) := by
  obtain ⟨table, placed, rfl⟩ := htbBuild_ok_iff.mp h
  exact (placeLengths_above placed).1

theorem htbBuild_unfilled {j : Nat} (above : c ≤ revBits (1 + maxLen lens) j) : t.table.getD j 0 = 0 := by
  obtain ⟨table, placed, rfl⟩ := htbBuild_ok_iff.mp h
  rw [List.getD_eq_getElem?_getD, (placeLengths_above placed).2 j above, List.getElem?_replicate]
  split <;> rfl

theorem htbBuild_filled {j : Nat} (hj : j < 2 ^ maxLen lens) (below : revBits (1 + maxLen lens) j < c) :
    ∃ k l : Nat, lens[k]? = some l ∧ 0 < l ∧ revBits l j = canonicalCode lens k ∧ t.table.getD j 0 = mkEntry l k := by
  rcases code_of_revBits_lt_firstCode lens j (htbBuild_code h ▸ below) with none | ⟨k, l, hk, pos, -, code⟩
  · exact absurd none (Nat.not_lt_zero _)
  · have code := code.trans (canonicalCode_eq hk).symm
    exact ⟨k, l, hk, pos, code, htbBuild_entry h hk pos hj code⟩

/-- A symbol of a table has its code (R166). -/
theorem canonicalCode_lt {k l : Nat} (hk : lens[k]? = some l) (pos : 0 < l) : canonicalCode lens k < 2 ^ l := by
  have le := le_maxLen (List.mem_of_getElem? hk)
  have fit := htbBuild_isOk_iff.mp ⟨t, c, h⟩ l pos (by omega)
  have below := count_take_lt hk
  rw [canonicalCode_eq hk]
  omega

end

theorem getD_ccbCodes {lens codes : List Nat} (h : ccbCodes lens = some codes) {k l : Nat} (hk : lens[k]? = some l) :
    codes.getD k 0 = revBits l (canonicalCode lens k) := by
  obtain ⟨hi, value⟩ := List.getElem?_eq_some_iff.mp hk
  rw [(ccbCodes_canonical h).2 k hi, List.getD_eq_getElem _ _ hi, value]

/-- Settles O29: CCB.CODES stores the canonical code as HTB.BUILD looks for it in a slot. -/
theorem everyCodeDecodesToItsSymbol : Obligations.EveryCodeDecodesToItsSymbol := by
  intro lens codes tb c _ built coded i l hi pos
  have code := getD_ccbCodes coded hi
  obtain ⟨max, -, size⟩ := htbBuild_measures built
  refine ⟨code ▸ revBits_lt _ _, fun j hj begins => ?_⟩
  rw [max] at hj
  rw [code, mod_eq_revBits_iff (canonicalCode_lt built hi pos)] at begins
  have inside : j < tb.table.length := size ▸ hj
  rw [List.getElem?_eq_getElem inside, ← List.getD_eq_getElem _ 0 inside, htbBuild_entry built hi pos hj begins]

/-! ## The command (R160, R166) -/

theorem placeSymbols_error {bl i : Nat} {lens : List Nat} {b : Build} {sym : Nat}
    (h : placeSymbols bl i lens b = .error sym) : sym < i + lens.length := by
  induction lens generalizing i b with
  | nil => cases h
  | cons l lens ih =>
    rw [List.length_cons]
    by_cases hl : l = bl
    · subst hl
      by_cases full : 2 ^ l ≤ b.code
      · rw [placeSymbols_full full] at h; cases h; omega
      · rw [placeSymbols_fits (Nat.lt_of_not_le full)] at h
        have := ih h; omega
    · rw [placeSymbols_other hl] at h
      have := ih h; omega

theorem placeLengths_error {lens : List Nat} {bl n : Nat} {b : Build} {sym : Nat}
    (h : placeLengths lens bl n b = .error sym) : sym < lens.length := by
  induction n generalizing bl b with
  | zero => cases h
  | succ n ih =>
    rw [placeLengths] at h
    split at h
    next full => cases h; simpa using placeSymbols_error full
    next => exact ih h

theorem htbBuild_error {lens : List Nat} {sym : Nat} (h : htbBuild lens = .error sym) : sym < lens.length := by
  unfold htbBuild at h
  dsimp only at h
  split at h <;> cases h
  next full => exact placeLengths_error full

/-- HTB.BUILD has a table or stops at a symbol, by the Kraft inequality (R166). -/
theorem htbBuild_kraft {lens : List Nat} (h : ∀ l ∈ lens, l ≤ 15) :
    (kraftSum 15 lens ≤ 2 ^ 15 → ∃ t c, htbBuild lens = .ok (t, c)) ∧
      (kraftSum 15 lens > 2 ^ 15 → ∃ sym, htbBuild lens = .error sym) := by
  have fits := htbBuild_isOk_iff.trans (codesFit_iff h)
  refine ⟨fits.mpr, fun past => ?_⟩
  cases e : htbBuild lens with
  | error sym => exact ⟨sym, rfl⟩
  | ok x => exact absurd (fits.mp ⟨x.1, x.2, e⟩) (Nat.not_le.mpr past)

theorem lenTable_beginCommand (clearsDone : Bool) (s : State) : (beginCommand clearsDone s).lenTable = s.lenTable := rfl

section
variable {s : State} {a : TableArg} (hf : s.status.fault = none)
include hf

theorem exec_htbBuild_unwritten (h : resolveTable s.lenTable a = none) :
    exec (.htbBuild a) s = .next (raise .eApi 0 (beginCommand false s)) := by
  simp only [exec, execHtbBuild, framed_runs hf, lenTable_beginCommand, h]

variable {lens : List Nat} (h : resolveTable s.lenTable a = some lens) (domain : (TableArg.lit lens).lengthsOk = true)
include h domain

theorem exec_htbBuild_full {sym : Nat} (full : htbBuild lens = .error sym) :
    exec (.htbBuild a) s = .next (raise .eCode sym (beginCommand false s)) := by
  simp only [exec, execHtbBuild, framed_runs hf, lenTable_beginCommand, h, domain, if_true, buildTable, full]

theorem exec_htbBuild_built {t : DecodeTable} {c : Nat} (built : htbBuild lens = .ok (t, c)) :
    exec (.htbBuild a) s = .next
      { s.ended (.table t) with built := s.built ++ [t], htb := { code := c, bitLength := t.maxLen } } := by
  simp only [exec, execHtbBuild, framed_runs hf, lenTable_beginCommand, h, domain, if_true, buildTable, built]
  rfl

end

/-- Settles O28: by the Kraft inequality there is a table; a slot from the last code on is 0, one below it has its symbol. -/
theorem htbBuildMakesATable : Obligations.HtbBuildMakesATable := by
  refine fun s a hf => ⟨fun lens ha ok size => ?_, fun al ha unwritten => ha ▸ ?_⟩
  · have resolved := resolveTable_eq (tables := s.lenTable) ha
    have small := lengthsOk_iff.mp ok
    have domain : (TableArg.lit lens).lengthsOk = true := by
      simp only [TableArg.lengthsOk, ok, size, decide_true, Bool.and_self]
    refine ⟨fun kraft => ?_, fun past => ?_⟩
    · obtain ⟨tb, c, built⟩ := (htbBuild_kraft small).1 kraft
      have fits := htbBuild_isOk_iff.mp ⟨tb, c, built⟩
      obtain ⟨codes, coded⟩ := Option.isSome_iff_exists.mp (ccbCodes_isSome_iff.mpr fits)
      obtain ⟨max, min, entries⟩ := htbBuild_measures built
      refine ⟨_, tb, codes, exec_htbBuild_built hf resolved domain built, rfl, built, rfl, coded,
        fun j hj filled => ?_, ?_⟩
      · rw [max] at hj
        obtain ⟨k, l, hk, pos, code, entry⟩ := htbBuild_filled built hj
          (Nat.lt_of_not_le fun above => filled (htbBuild_unfilled built above))
        refine ⟨k, l, hk, pos, ?_, entry⟩
        rw [getD_ccbCodes coded hk]
        exact (mod_eq_revBits_iff (canonicalCode_lt built hk pos) j).mpr code
      · rw [max, min]
        exact ⟨entries, max ▸ htbBuild_maxLen built small, fun _ => le_maxLen, maxLen_mem lens,
          fun _ hl some => (minLen_le hl some).2, minLen_mem lens, minLen_eq_zero_iff lens⟩
    · obtain ⟨sym, full⟩ := (htbBuild_kraft small).2 past
      exact ⟨sym, htbBuild_error full, .of_exec (exec_htbBuild_full hf resolved domain full) rfl⟩
  · exact .of_exec (exec_htbBuild_unwritten hf (if_neg (ne_true_of_eq_false unwritten))) rfl

/-! ## The fixed tables (R168) -/

theorem mkEntry_ne_zero {l k : Nat} (pos : 0 < l) (hl : l < 2 ^ 16) (hk : k < 2 ^ 16) : mkEntry l k ≠ 0 := by
  intro zero
  have length := entryLength_mkEntry hl hk
  rw [zero] at length
  exact Nat.ne_of_lt pos length

/-- A slot is filled exactly where its bits are below the last code. -/
theorem htbBuild_slot_eq_zero_iff {lens : List Nat} {t : DecodeTable} {c : Nat} (h : htbBuild lens = .ok (t, c))
    (small : ∀ l ∈ lens, l < 2 ^ 16) (size : lens.length ≤ 2 ^ 16) {j : Nat} (hj : j < 2 ^ maxLen lens) :
    t.table.getD j 0 = 0 ↔ c ≤ revBits (1 + maxLen lens) j := by
  refine ⟨fun zero => Nat.le_of_not_lt fun below => ?_, htbBuild_unfilled h⟩
  obtain ⟨k, l, hk, pos, -, entry⟩ := htbBuild_filled h hj below
  have inside := (List.getElem?_eq_some_iff.mp hk).1
  exact mkEntry_ne_zero pos (small l (List.mem_of_getElem? hk)) (by omega) (entry.symm.trans zero)

theorem fixedLitLens_measures :
    maxLen fixedLitLens = 9 ∧ minLen fixedLitLens = 7 ∧ firstCode fixedLitLens 1 0 10 = 2 ^ 10 := by
  decide +kernel

theorem fixedDistLens_measures :
    maxLen fixedDistLens = 5 ∧ minLen fixedDistLens = 5 ∧ firstCode fixedDistLens 1 0 6 = 60 := by
  decide +kernel

/-- Every 9-bit slot is below the last literal/length code. -/
theorem fixedLitLenTable_filled : ∀ e ∈ fixedLitLenTable.table, e ≠ 0 := by
  intro e he zero
  obtain ⟨c, built⟩ := fixedLitLenTable_built
  obtain ⟨max, -, last⟩ := fixedLitLens_measures
  obtain ⟨j, hj, rfl⟩ := List.getElem_of_mem he
  have code := htbBuild_code built
  have inside : j < 2 ^ maxLen fixedLitLens := (htbBuild_measures built).2.2 ▸ hj
  rw [← List.getD_eq_getElem _ 0 hj, htbBuild_slot_eq_zero_iff built
    (fun l hl => (fixedLitLens_le hl).trans_lt (by decide)) (by decide +kernel) inside, code, max, last] at zero
  exact Nat.not_lt.mpr zero (revBits_lt _ _)

theorem fixedDistTable_slot_eq_zero_iff {j : Nat} (hj : j < 32) :
    fixedDistTable.table.getD j 0 = 0 ↔ j = 15 ∨ j = 31 := by
  obtain ⟨c, built⟩ := fixedDistTable_built
  obtain ⟨max, -, last⟩ := fixedDistLens_measures
  have reversed : ∀ j < 32, 60 ≤ revBits 6 j ↔ j = 15 ∨ j = 31 := by decide
  have code := htbBuild_code built
  rw [htbBuild_slot_eq_zero_iff built (fun l hl => (fixedDistLens_le hl).trans_lt (by decide)) (by decide) (max ▸ hj),
    code, max, last]
  exact reversed j hj

/-- Settles O30: the slots below the last code of each fixed code. -/
theorem fixedTablesAreTheBuiltOnes : Obligations.FixedTablesAreTheBuiltOnes := by
  obtain ⟨_, litLen⟩ := fixedLitLenTable_built
  obtain ⟨_, dist⟩ := fixedDistTable_built
  obtain ⟨max, min, size⟩ := htbBuild_measures litLen
  obtain ⟨max', min', size'⟩ := htbBuild_measures dist
  obtain ⟨max9, min7, -⟩ := fixedLitLens_measures
  obtain ⟨max5, min5, -⟩ := fixedDistLens_measures
  rw [max9] at max size
  rw [max5] at max' size'
  exact ⟨⟨max, min.trans min7, size, fixedLitLenTable_filled⟩,
    ⟨max', min'.trans min5, size', fun _ => fixedDistTable_slot_eq_zero_iff⟩, ⟨_, litLen⟩, _, dist⟩

end Sys2Proof.Machine
end

section
/-! PROOFS. The end of a dynamic header (R270, R272): the HLIT + HDIST lengths are split and both tables are built. -/

namespace Sys2Proof.Machine

theorem le_of_mem_clRun {i : Instr} {lens new : List Nat} (h : clRun i lens = some new) (small : ∀ l ∈ lens, l ≤ 15)
    {l : Nat} (hl : l ∈ new) : l ≤ 15 := by
  cases i <;> simp only [clRun, Option.map_eq_some_iff, reduceCtorEq, Option.some.injEq] at h
  case cl16 x =>
    obtain ⟨prev, last, rfl⟩ := h
    exact (List.eq_of_mem_replicate hl) ▸ small prev (List.mem_of_getLast? last)
  case cl17 x => subst h; exact (List.eq_of_mem_replicate hl) ▸ Nat.zero_le 15
  case cl18 x => subst h; exact (List.eq_of_mem_replicate hl) ▸ Nat.zero_le 15
  all_goals subst h; obtain rfl := List.mem_singleton.mp hl; decide

/-- The state in which a table of a dynamic header has just been built. -/
def State.tableBuilt (t : DecodeTable) (c : Nat) (s : State) : State :=
  { s with htb := { code := c, bitLength := t.maxLen } }

theorem buildHeaderTable_ok {lens : List Nat} {t : DecodeTable} {c : Nat} (h : htbBuild lens = .ok (t, c)) (s : State) :
    buildHeaderTable lens s = .ok (t, s.tableBuilt t c) := by
  rw [buildHeaderTable, buildTable, h]; rfl

theorem buildHeaderTable_full {lens : List Nat} {sym : Nat} (h : htbBuild lens = .error sym) (s : State) :
    buildHeaderTable lens s = .error (raise .eHeader 0 s) := by
  rw [buildHeaderTable, buildTable, h]

theorem streamState_of_decode {s : State} {j : Job} {ph : Phase} (h : s.seq = .decode j ph) (x : SdecState) :
    s.streamState x = { s with sdec := if j = .stream then { s.sdec with state := x } else s.sdec } := by
  by_cases hj : j = .stream
  · subst hj
    rw [if_pos rfl]
    unfold State.streamState
    split
    next => rfl
    next other => exact absurd h (other ph)
  · rw [streamState_of_not_stream h hj, if_neg hj]

theorem goto_streamState {s : State} {j : Job} {ph : Phase} (h : s.seq = .decode j ph) (x : SdecState) (next : Phase) :
    (s.streamState x).goto next =
      { s with sdec := if j = .stream then { s.sdec with state := x } else s.sdec, seq := .decode j next } := by
  rw [goto_of_decode ((streamState_seq x s).trans h), streamState_of_decode h]

/-- The state in which both tables of a dynamic block are known. -/
def State.blockTables (ll d : DecodeTable) (c : Nat) (s : State) : State :=
  { s.tableBuilt d c with dec := { s.dec with ll := ll, d := d } }

section
variable {s : State} (full : s.dec.hdr.lens.length = s.dec.hdr.hlit + s.dec.hdr.hdist)
include full

theorem headerTurn_last : headerTurn s = finishHeader s := by rw [headerTurn, if_neg (by omega)]

/-- With all its lengths there, the distance part of a header is the rest behind the HLIT lengths. -/
theorem take_drop_lens : (s.dec.hdr.lens.drop s.dec.hdr.hlit).take s.dec.hdr.hdist = s.dec.hdr.lens.drop s.dec.hdr.hlit :=
  List.take_of_length_le (by rw [List.length_drop]; omega)

theorem finishHeader_ok {ll d : DecodeTable} {c c' : Nat} {j : Job} {ph : Phase} (hs : s.seq = .decode j ph)
    (hl : htbBuild (s.dec.hdr.lens.take s.dec.hdr.hlit) = .ok (ll, c))
    (hd : htbBuild (s.dec.hdr.lens.drop s.dec.hdr.hlit) = .ok (d, c')) :
    finishHeader s = .ok
      { s.blockTables ll d c' with
        sdec := if j = .stream then { s.sdec with state := .decodeBlockStart } else s.sdec, seq := .decode j .litLen } := by
  have dist : (s.tableBuilt ll c).dec.hdr = s.dec.hdr := rfl
  have seq : (s.blockTables ll d c').seq = .decode j ph := hs
  rw [finishHeader, buildHeaderTable_ok hl]
  dsimp only
  rw [dist, take_drop_lens full, buildHeaderTable_ok hd]
  exact congrArg _ (goto_streamState seq .decodeBlockStart .litLen)

/-- Either part that is over-subscribed is E_HEADER (R166, R270). -/
theorem finishHeader_full {sym : Nat} (h : htbBuild (s.dec.hdr.lens.take s.dec.hdr.hlit) = .error sym ∨
    htbBuild (s.dec.hdr.lens.drop s.dec.hdr.hlit) = .error sym) :
    ∃ t, finishHeader s = .error (raise .eHeader 0 t) ∧ t.host = s.host := by
  cases hl : htbBuild (s.dec.hdr.lens.take s.dec.hdr.hlit) with
  | error _ => exact ⟨s, by rw [finishHeader, buildHeaderTable_full hl], rfl⟩
  | ok x =>
    have dist : (s.tableBuilt x.1 x.2).dec.hdr = s.dec.hdr := rfl
    have hd := h.resolve_left (by rw [hl]; nofun)
    refine ⟨s.tableBuilt x.1 x.2, ?_, rfl⟩
    rw [finishHeader, buildHeaderTable_ok hl]
    dsimp only
    rw [dist, take_drop_lens full, buildHeaderTable_full hd]

end

/-- The symbol that completes the lengths finishes the header. -/
theorem exec_last_clSymbol {i : Instr} {s : State} {new : List Nat} (run : clRun i s.dec.hdr.lens = some new)
    (last : s.dec.hdr.lens.length + new.length = s.dec.hdr.hlit + s.dec.hdr.hdist) :
    exec i s = conclude (finishHeader (s.withLengths new)) := by
  rw [exec_of_clRun run, if_neg (by omega), headerTurn_last (s := s.withLengths new) (List.length_append.trans last)]

/-- Settles O46: by the Kraft inequality of either part. -/
theorem lastCodeLengthSymbolBuildsTheTables : Obligations.LastCodeLengthSymbolBuildsTheTables := by
  intro s j ph i new hs run last small ll d
  have whole : (s.withLengths new).dec.hdr.lens.length = s.dec.hdr.hlit + s.dec.hdr.hdist :=
    List.length_append.trans last
  have all : ∀ l ∈ s.dec.hdr.lens ++ new, l ≤ 15 := fun l hl =>
    (List.mem_append.mp hl).elim (small l) (le_of_mem_clRun run small)
  obtain ⟨llFits, llPast⟩ := htbBuild_kraft (lens := ll) fun l hl => all l (List.mem_of_mem_take hl)
  obtain ⟨dFits, dPast⟩ := htbBuild_kraft (lens := d) fun l hl => all l (List.mem_of_mem_drop hl)
  rw [exec_last_clSymbol run last]
  refine ⟨fun llKraft dKraft => ?_, fun past => ?_⟩
  · obtain ⟨tl, c, hl⟩ := llFits llKraft
    obtain ⟨td, c', hd⟩ := dFits dKraft
    rw [finishHeader_ok (s := s.withLengths new) whole hs hl hd]
    exact ⟨_, c, rfl, hl, hd, rfl, rfl⟩
  · obtain ⟨sym, h⟩ : ∃ sym, htbBuild ll = .error sym ∨ htbBuild d = .error sym := by
      rcases past with past | past
      · exact (llPast past).imp fun _ => .inl
      · exact (dPast past).imp fun _ => .inr
    obtain ⟨t, stops, host⟩ := finishHeader_full (s := s.withLengths new) whole h
    exact .of_exec (by rw [exec_last_clSymbol run last, stops]; rfl) host

end Sys2Proof.Machine
end

section
/-! PROOFS. LZM.RUN: where the loop of R172 leaves the matcher's registers, and what the frequency tables sum to (R183,
R185 c). -/

namespace Sys2Proof.Machine

/-! ## The end of the loop (R172) -/

namespace Run

variable {data : List Byte} {r : Run} {before byte : Byte} {rest : List Byte} {q : Nat}

theorem Stands.pos_le (h : r.Stands data q) : r.reg.pos ≤ data.length := by
  cases h with
  | free within => omega
  | deferred at_ skip valid best =>
    obtain ⟨three, -, -, -, -, room, -⟩ := best.1
    omega

/-- A match deferred has bytes still ahead of it, so none is left at the input's end (R181). -/
theorem Stands.clear_of_end (h : r.Stands data q) (past : data.length ≤ r.reg.pos) : r.reg.prevValid = false := by
  cases h with
  | free within clear => exact clear
  | deferred at_ skip valid best =>
    obtain ⟨three, -, -, -, -, room, -⟩ := best.1
    omega

/-- The loop is between two positions: `rest` is ahead, `before` is the byte behind. -/
structure Amid (data : List Byte) (before : Byte) (rest : List Byte) (r : Run) : Prop where
  stands : ∃ q, r.Stands data q
  holds  : r.chain.Holds data r.reg.pos
  ahead  : data.drop r.reg.pos = rest
  behind : ∀ p, r.reg.pos = p + 1 → data[p]? = some before

theorem Amid.start (data : List Byte) (lazy : Nat) (m : Matcher) : Amid data 0 data (Run.start lazy m) :=
  ⟨⟨_, .free (Nat.zero_le _) rfl⟩, .start data, rfl, fun _ h => nomatch h⟩

/-- One iteration (R172) takes the loop to the next position and leaves LZM.lazy. -/
theorem Amid.position (h : r.Amid data before (byte :: rest)) :
    (r.position data before byte (byte :: rest)).next.Amid data byte rest ∧
      (r.position data before byte (byte :: rest)).next.reg.lazy = r.reg.lazy := by
  obtain ⟨⟨q, stands⟩, holds, ahead, behind⟩ := h
  have here : data[r.reg.pos]? = some byte := by
    rw [← List.head?_drop, ahead]; rfl
  obtain ⟨⟨_, q', -, stands', lazy, -⟩, holds', pos⟩ := position_moves stands holds here behind
  rw [ahead] at stands' lazy holds' pos
  have pos' : (r.position data before byte (byte :: rest)).next.reg.pos = r.reg.pos + 1 := congrArg (· + 1) pos
  refine ⟨⟨⟨q', stands'⟩, pos' ▸ holds', ?_, fun p hp => ?_⟩, lazy⟩
  · rw [pos', ← List.drop_drop, ahead]; rfl
  · rwa [← Nat.succ.inj (pos'.symm.trans hp)]

/-- The loop visits every position and leaves nothing deferred (R172, R181). -/
theorem Amid.loop (h : r.Amid data before rest) :
    (r.loop data before rest).reg.pos = data.length ∧ (r.loop data before rest).reg.prevValid = false ∧
      (r.loop data before rest).reg.lazy = r.reg.lazy := by
  induction rest generalizing r before with
  | nil =>
    obtain ⟨q, stands⟩ := h.stands
    have past := List.drop_eq_nil_iff.mp h.ahead
    exact ⟨Nat.le_antisymm stands.pos_le past, stands.clear_of_end past, rfl⟩
  | cons byte rest ih =>
    obtain ⟨next, lazy⟩ := h.position
    obtain ⟨pos, clear, kept⟩ := ih next
    exact ⟨pos, clear, kept.trans lazy⟩

end Run

/-! ## What the frequency tables hold (R182 to R185) -/

theorem getD_count {k : Nat} {freq : List Nat} (i : Nat) (h : i < freq.length) :
    (count k freq).getD i 0 = freq.getD i 0 + if k = i then 1 else 0 := by
  rw [count, List.getD_eq_getElem _ _ (by rwa [List.length_modify]), List.getD_eq_getElem _ _ h, List.getElem_modify]
  split <;> rfl

theorem sum_count {k : Nat} {freq : List Nat} (h : k < freq.length) : (count k freq).sum = freq.sum + 1 := by
  induction freq generalizing k with
  | nil => cases h
  | cons x freq ih =>
    cases k with
    | zero => simp [count, Nat.add_right_comm]
    | succ k =>
      have rest : (freq.modify k (· + 1)).sum = freq.sum + 1 := ih (Nat.lt_of_succ_lt_succ h)
      simp [count, rest, Nat.add_assoc]

/-- freqLL counts every symbol as often as it is emitted. -/
theorem getD_foldl_countLL {i : Nat} (toks : List Token) {freq : List Nat} (h : i < freq.length) :
    (toks.foldl Token.countLL freq).getD i 0 = freq.getD i 0 + (toks.map Token.symbol).count i := by
  induction toks generalizing freq with
  | nil => rfl
  | cons t toks ih =>
    rw [List.foldl_cons, Token.countLL, ih (h.trans_eq (length_count ..).symm), getD_count i h, List.map_cons,
      List.count_cons, Nat.add_assoc, Nat.add_comm (ite ..)]
    simp only [beq_iff_eq]

/-- What one token adds to a table's sum, a list of tokens adds. -/
theorem sum_foldl_count {step : List Nat → Token → List Nat} {total : List Token → Nat} {n : Nat}
    (keeps : ∀ freq t, (step freq t).length = freq.length)
    (adds : ∀ freq t, freq.length = n → t.ranged → (step freq t).sum = freq.sum + total [t])
    (additive : ∀ a b, total (a ++ b) = total a + total b) {toks : List Token} (ranged : ∀ t ∈ toks, t.ranged)
    {freq : List Nat} (size : freq.length = n) : (toks.foldl step freq).sum = freq.sum + total toks := by
  induction toks generalizing freq with
  | nil =>
    have none : total [] = total [] + total [] := additive [] []
    exact Nat.left_eq_add.mpr (Nat.left_eq_add.mp none)
  | cons t toks ih =>
    obtain ⟨first, others⟩ := List.forall_mem_cons.mp ranged
    rw [List.foldl_cons, ih others ((keeps ..).trans size), adds freq t size first, Nat.add_assoc]
    exact congrArg (freq.sum + ·) (additive [t] toks).symm

namespace Token

theorem symbol_lt {t : Token} (ranged : t.ranged) : t.symbol < 286 := by
  cases t with
  | lit b => exact Nat.lt_of_le_of_lt ranged (by decide)
  | eob => decide
  | copy => exact Nat.lt_succ_of_le ranged.2.1

/-- The end marker alone has the symbol 256 (R183). -/
theorem symbol_eq_256_iff {t : Token} (ranged : t.ranged) : t.symbol = 256 ↔ t = .eob := by
  cases t with
  | lit b => exact iff_of_false (Nat.ne_of_lt (Nat.lt_succ_of_le ranged)) nofun
  | eob => exact iff_of_true rfl rfl
  | copy => exact iff_of_false (Nat.ne_of_gt ranged.1) nofun

theorem matches_append (a b : List Token) : Token.matches (a ++ b) = Token.matches a + Token.matches b := by
  simp [Token.matches]

/-- A token is a literal, a match or the end marker. -/
theorem length_eq (toks : List Token) :
    toks.length = Token.literals toks + Token.matches toks + toks.count .eob := by
  induction toks with
  | nil => rfl
  | cons t toks ih =>
    rw [List.length_cons, ih]
    cases t <;> simp [Token.literals, Token.matches] <;> omega

theorem sum_countLL {freq : List Nat} {t : Token} (size : freq.length = 286) (ranged : t.ranged) :
    (countLL freq t).sum = freq.sum + 1 := sum_count (size ▸ symbol_lt ranged)

theorem sum_countD {freq : List Nat} {t : Token} (size : freq.length = 30) (ranged : t.ranged) :
    (countD freq t).sum = freq.sum + Token.matches [t] := by
  cases t with
  | lit | eob => rfl
  | copy =>
    obtain ⟨-, -, -, -, high, -⟩ := ranged
    exact sum_count (size ▸ Nat.lt_succ_of_le high)

end Token

section
variable {lazy : Nat} {m : Matcher} {toks : List Token} {r : Run} (h : (Run.start lazy m).Emits toks r)
include h

/-- The end marker is counted as often as it is emitted (R183). -/
theorem Run.Emits.getD_256 (ranged : ∀ t ∈ toks, t.ranged) : r.freqLL.getD 256 0 = toks.count .eob := by
  rw [h.freqLL, getD_foldl_countLL _ (by rw [start, List.length_replicate]; decide), List.count_eq_countP,
    List.countP_map, List.count_eq_countP]
  refine (Nat.zero_add _).trans (List.countP_congr fun t ht => ?_)
  simpa using Token.symbol_eq_256_iff (ranged t ht)

/-- Either table's sum: freqLL counts every token, freqD the matches (R185 c). -/
theorem Run.Emits.sums (ranged : ∀ t ∈ toks, t.ranged) :
    r.freqLL.sum = toks.length ∧ r.freqD.sum = Token.matches toks := by
  have ll := sum_foldl_count (fun _ _ => length_count ..) (fun _ _ => Token.sum_countLL) (fun _ _ => List.length_append)
    ranged (freq := List.replicate 286 0) List.length_replicate
  have d := sum_foldl_count length_countD (fun _ _ => Token.sum_countD) Token.matches_append
    ranged (freq := List.replicate 30 0) List.length_replicate
  rw [List.sum_replicate, smul_zero, Nat.zero_add] at ll d
  exact ⟨h.freqLL ▸ ll, h.freqD ▸ d⟩

end

/-- A run's last token, and no other, is the end marker (R183). -/
theorem count_eob_of_body {body : List Token} (h : ∀ t ∈ body, t.ranged ∧ t ≠ .eob) :
    (body ++ [Token.eob]).count .eob = 1 := by
  rw [List.count_append, List.count_eq_zero.mpr fun mem => (h _ mem).2 rfl]; rfl

/-- Settles O33: every token adds one to freqLL, every match one to freqD, and one token is the end marker. -/
theorem frequenciesCountTheTokens : Obligations.FrequenciesCountTheTokens := by
  intro data lazy m
  obtain ⟨body, emits, chosen⟩ := matchRun_emits data lazy m
  have ranged := ranged_of_body chosen.ranged
  obtain ⟨sumLL, sumD⟩ := emits.sums ranged
  refine ⟨body ++ [Token.eob], emits.tok, ranged, sumLL.trans ?_, sumD⟩
  rw [Token.length_eq, count_eob_of_body chosen.ranged]

/-! ## LZM.RUN -/

theorem exec_lzmRun {s : State} (hf : s.status.fault = none) :
    exec .lzmRun s =
      let r := matchRun s.inMem.bytes s.cfg.lazy s.lzm
      .next { s.ended (.tokens r.tok r.freqLL r.freqD) with
        lzm := r.reg, chain := r.chain, tok := r.tok, freqLL := .of r.freqLL, freqD := .of r.freqD } := by
  rw [exec, execLzmRun, framed_runs hf]; rfl

/-- The registers after a run are those after its loop (R172, R181, R183). -/
theorem matchRun_reg (data : List Byte) (lazy : Nat) (m : Matcher) :
    (matchRun data lazy m).reg.pos = data.length ∧ (matchRun data lazy m).reg.prevValid = false ∧
      (matchRun data lazy m).reg.lazy = lazy := (Run.Amid.start data lazy m).loop

theorem matchRun_getLast? (data : List Byte) (lazy : Nat) (m : Matcher) :
    (matchRun data lazy m).tok.getLast? = some 256 := List.getLast?_concat

/-- Settles O31: the loop ends at the input's end with nothing deferred, and the one end marker follows. -/
theorem lzmRunEndsWithTheMarker : Obligations.LzmRunEndsWithTheMarker := by
  intro s hf
  obtain ⟨pos, clear, lazy⟩ := matchRun_reg s.inMem.bytes s.cfg.lazy s.lzm
  obtain ⟨body, emits, chosen⟩ := matchRun_emits s.inMem.bytes s.cfg.lazy s.lzm
  have ranged := ranged_of_body chosen.ranged
  obtain ⟨sizeLL, sizeD, -⟩ := emits.counted ranged
  exact ⟨_, exec_lzmRun hf, rfl, rfl, pos.trans (List.length_map ..), clear, lazy, matchRun_getLast? ..,
    (emits.getD_256 ranged).trans (count_eob_of_body chosen.ranged), sizeLL, sizeD, rfl, rfl⟩

end Sys2Proof.Machine
end

section
/-! PROOFS. CCB.LENGTHS: the cases of R202 and what each leaves. -/

namespace Sys2Proof.Machine

/-! ## The cases of R202 -/

section
variable {p : Config.Params} {freq : List Nat} {limit : Nat}

theorem ccbLengths_few (h : (freq.filter (· > 0)).length ≤ 1) :
    ccbLengths p freq limit = .ok (freq.map fun f => if f > 0 then 1 else 0) := if_pos h

theorem ccbLengths_unused (h : (freq.filter (· > 0)).length = 0) :
    ccbLengths p freq limit = .ok (freq.map fun _ => 0) := by
  rw [ccbLengths_few (h.trans_le (Nat.zero_le 1))]
  have unused := List.filter_eq_nil_iff.mp (List.eq_nil_of_length_eq_zero h)
  exact congrArg _ (List.map_congr_left fun f hf => if_neg fun pos => unused f hf (decide_eq_true pos))

theorem ccbLengths_within (more : 2 ≤ (freq.filter (· > 0)).length) (fits : (freq.filter (· > 0)).length ≤ 2 ^ limit) :
    ccbLengths p freq limit = .ok (codeLengths p freq limit) := by
  rw [ccbLengths, if_neg (Nat.not_le.mpr more), if_neg (Nat.not_lt.mpr fits)]

theorem ccbLengths_tooMany (h : (freq.filter (· > 0)).length > 2 ^ limit) :
    ccbLengths p freq limit = .error (freq.filter (· > 0)).length := by
  have := Nat.one_le_two_pow (n := limit)
  rw [ccbLengths, if_neg (by omega), if_pos h]

end

/-! ## CCB.LENGTHS -/

section
variable {s : State} {a : TableArg} {limit : Nat} (hf : s.status.fault = none)
include hf

theorem exec_ccbLengths_limit (outside : limit = 0 ∨ 15 < limit) :
    exec (.ccbLengths a limit) s = .next (raise .eApi limit (beginCommand false s)) := by
  rw [exec, execCcbLengths, framed_runs hf, if_neg (by omega)]

variable (low : 1 ≤ limit) (high : limit ≤ 15)
include low high

theorem exec_ccbLengths_unwritten (h : resolveTable s.freqTable a = none) :
    exec (.ccbLengths a limit) s = .next (raise .eApi 0 (beginCommand false s)) := by
  have table : (beginCommand false s).freqTable = s.freqTable := rfl
  rw [exec, execCcbLengths, framed_runs hf, if_pos ⟨low, high⟩, table, h]

theorem exec_ccbLengths_error {freq : List Nat} {m : Nat} (h : resolveTable s.freqTable a = some freq)
    (hl : ccbLengths s.params freq limit = .error m) :
    exec (.ccbLengths a limit) s = .next (raise .eApi m (beginCommand false s)) := by
  have table : (beginCommand false s).freqTable = s.freqTable := rfl
  rw [exec, execCcbLengths, framed_runs hf, if_pos ⟨low, high⟩, table, h]
  dsimp only
  rw [beginCommand_params, hl]

theorem exec_ccbLengths_ok {freq lens : List Nat} (h : resolveTable s.freqTable a = some freq)
    (hl : ccbLengths s.params freq limit = .ok lens) :
    ∃ t, exec (.ccbLengths a limit) s = .next t ∧ (∀ f, a = .lit f → t = s.ended (.lengths lens)) ∧
      ∀ al, a = .reg al → t = (s.ended (.lengths lens)).putLens al lens := by
  have table : (beginCommand false s).freqTable = s.freqTable := rfl
  rw [exec, execCcbLengths, framed_runs hf, if_pos ⟨low, high⟩, table, h]
  dsimp only
  rw [beginCommand_params, hl]
  cases a with
  | lit f => exact ⟨_, rfl, fun _ _ => rfl, nofun⟩
  | reg al => exact ⟨_, rfl, nofun, fun _ e => by cases e; cases al <;> rfl⟩

end

/-- Settles O34: the limit, then the table, then the number of used symbols. -/
theorem ccbLengthsFollowsTheSteps : Obligations.CcbLengthsFollowsTheSteps := by
  refine ⟨fun s a limit hf outside => .of_exec (exec_ccbLengths_limit hf outside) rfl,
    fun s a limit hf low high => ⟨fun freq ha => ?_, fun al ha unwritten => ?_⟩⟩
  · have resolved := resolveTable_eq (tables := s.freqTable) ha
    exact ⟨fun unused => exec_ccbLengths_ok hf low high resolved (ccbLengths_unused unused),
      fun one => exec_ccbLengths_ok hf low high resolved (ccbLengths_few one.le),
      fun more fits => exec_ccbLengths_ok hf low high resolved (ccbLengths_within more fits),
      fun past => .of_exec (exec_ccbLengths_error hf low high resolved (ccbLengths_tooMany past)) rfl⟩
  · subst ha
    exact .of_exec (exec_ccbLengths_unwritten hf low high (if_neg (ne_true_of_eq_false unwritten))) rfl

end Sys2Proof.Machine
end

section
/-! PROOFS. CCB.RLE (R215 to R219): a maximal run, encoded in whatever place, expands to itself, so the whole input does. -/

namespace Sys2Proof.Machine

/-! ## Expanding entries (R96) -/

/-- The lengths one entry stands for, after the lengths `before` (the last one first). -/
def RleEntry.lengths (e : RleEntry) (before : List Nat) : List Nat :=
  if e.symbol ≤ 15 then [e.symbol]
  else if e.symbol = 16 then List.replicate (3 + e.value) (before.headD 0)
  else if e.symbol = 17 then List.replicate (3 + e.value) 0
  else List.replicate (11 + e.value) 0

theorem expandRle_cons (e : RleEntry) (es : List RleEntry) (before : List Nat) :
    expandRle (e :: es) before = e.lengths before ++ expandRle es ((e.lengths before).reverse ++ before) := rfl

theorem expandRle_append (xs ys : List RleEntry) (before : List Nat) :
    expandRle (xs ++ ys) before = expandRle xs before ++ expandRle ys ((expandRle xs before).reverse ++ before) := by
  induction xs generalizing before with
  | nil => rfl
  | cons e xs ih =>
    rw [List.cons_append, expandRle_cons, ih, expandRle_cons, List.reverse_append, List.append_assoc, List.append_assoc]

/-- After the lengths `before` (the last one first), the entries stand for `out`, are no more than its elements, and repeat
(symbol 16) a nonzero length only (R219). -/
structure Expands (before : List Nat) (es : List RleEntry) (out : List Nat) : Prop where
  expand  : expandRle es before = out
  few     : es.length ≤ out.length
  repeats : ∀ k e, es[k]? = some e → e.symbol = 16 → ((expandRle (es.take k) before).reverse ++ before).headD 0 ≠ 0

namespace Expands
variable {before out out' : List Nat} {es es' : List RleEntry}

theorem nil : Expands before [] [] := ⟨rfl, le_rfl, nofun⟩

theorem append (h : Expands before es out) (h' : Expands (out.reverse ++ before) es' out') :
    Expands before (es ++ es') (out ++ out') := by
  obtain ⟨rfl, few, repeats⟩ := h
  obtain ⟨rfl, few', repeats'⟩ := h'
  refine ⟨expandRle_append .., by simp only [List.length_append]; omega, fun k e hk rep => ?_⟩
  rcases Nat.lt_or_ge k es.length with inside | beyond
  · rw [List.getElem?_append_left inside] at hk
    rw [List.take_append_of_le_length inside.le]
    exact repeats k e hk rep
  · rw [List.getElem?_append_right beyond] at hk
    have := repeats' _ e hk rep
    rwa [List.take_append, List.take_of_length_le beyond, expandRle_append, List.reverse_append, List.append_assoc]

theorem cons {e : RleEntry} {v : Nat} (h : Expands before [e] [v]) (h' : Expands (v :: before) es out) :
    Expands before (e :: es) (v :: out) := h.append h'

theorem single {e : RleEntry} (h : e.lengths before = out) (some : 0 < out.length)
    (rep : e.symbol = 16 → before.headD 0 ≠ 0) : Expands before [e] out := by
  refine ⟨by rw [expandRle_cons, h]; exact List.append_nil out, some, fun k e' hk => ?_⟩
  cases k with
  | zero => cases hk; exact rep
  | succ k => cases hk

theorem plain {v : Nat} (h : v ≤ 15) : Expands before [plainEntry v] [v] :=
  single (if_pos h) Nat.one_pos fun rep => absurd rep (Nat.ne_of_lt (Nat.lt_succ_of_le h))

theorem plains {v : Nat} (h : v ≤ 15) (n : Nat) :
    Expands before (List.replicate n (plainEntry v)) (List.replicate n v) := by
  induction n generalizing before with
  | zero => exact nil
  | succ n ih => exact cons (plain h) ih

/-- A chunk of zeros (R216). -/
theorem zero {rpt : Nat} (low : 3 ≤ rpt) : Expands before [zeroEntry rpt] (List.replicate rpt 0) := by
  have some : 0 < (List.replicate rpt 0).length := by rw [List.length_replicate]; omega
  rw [zeroEntry]
  split
  · exact single (congrArg (List.replicate · 0) (by dsimp only; omega)) some nofun
  · exact single (congrArg (List.replicate · 0) (by dsimp only; omega)) some nofun

/-- A chunk of a run of a nonzero length that stands before it (R217). -/
theorem sixteen {v rpt : Nat} (pos : v ≠ 0) (low : 3 ≤ rpt) (prev : before.headD 0 = v) :
    Expands before [{ symbol := 16, bits := 2, value := rpt - 3 }] (List.replicate rpt v) := by
  refine single ?_ (by rw [List.length_replicate]; omega) fun _ => prev ▸ pos
  exact (congrArg (List.replicate · _) (by dsimp only; omega)).trans (congrArg _ prev)

end Expands

/-! ## Chunks (R218) -/

/-- A chunk is of at least three, and leaves none or at least three. -/
theorem chunkOf_spec {cap run : Nat} (hc : 6 ≤ cap) (hr : 3 ≤ run) :
    3 ≤ chunkOf cap run ∧ chunkOf cap run ≤ run ∧
      (run - chunkOf cap run = 0 ∨ 3 ≤ run - chunkOf cap run) := by
  rw [chunkOf]
  split <;> omega

/-- A run cut into chunks expands to itself where each chunk does. -/
theorem Expands.chunks {entry : Nat → RleEntry} {v cap : Nat} {good : List Nat → Prop} (hc : 6 ≤ cap)
    (one : ∀ before rpt, good before → 3 ≤ rpt → Expands before [entry rpt] (List.replicate rpt v))
    (keeps : ∀ before rpt, good before → good (List.replicate rpt v ++ before)) {fuel run : Nat} (hf : run ≤ fuel)
    (hr : run = 0 ∨ 3 ≤ run) {before : List Nat} (hb : good before) :
    Expands before ((Machine.chunks cap fuel run).map entry) (List.replicate run v) := by
  induction fuel generalizing run before with
  | zero => cases Nat.le_zero.mp hf; exact .nil
  | succ fuel ih =>
    cases run with
    | zero => exact .nil
    | succ run =>
      obtain ⟨low, high, rest⟩ := chunkOf_spec hc (hr.resolve_left (Nat.succ_ne_zero run))
      have later := ih (by omega) rest (keeps before (chunkOf cap (run + 1)) hb)
      rw [← List.reverse_replicate] at later
      have whole := (one before _ hb low).append later
      rwa [List.replicate_append_replicate, Nat.add_sub_cancel' high] at whole

/-! ## Runs (R215) -/

/-- A run of a length expands to itself (R216, R217). -/
theorem Expands.run {v : Nat} (hv : v ≤ 15) {n : Nat} (hn : 0 < n) (before : List Nat) :
    Expands before (runEntries v n) (List.replicate n v) := by
  rw [runEntries]
  split
  next zero =>
    subst zero
    split
    · exact .plains hv n
    · exact .chunks (good := fun _ => True) (by decide) (fun _ _ _ => .zero) (fun _ _ _ => trivial) le_rfl
        (by omega) trivial
  next pos =>
    obtain ⟨n, rfl⟩ := Nat.exists_eq_add_one_of_ne_zero hn.ne'
    rw [Nat.add_sub_cancel]
    refine Expands.cons (.plain hv) ?_
    split
    · exact .plains hv n
    · refine .chunks (good := fun before => before.headD 0 = v) (by decide)
        (fun _ _ prev low => .sixteen pos low prev) (fun before rpt prev => ?_) le_rfl (by omega) rfl
      cases rpt with
      | zero => exact prev
      | succ rpt => rfl

theorem runsOf_pos {src : List Nat} : ∀ r ∈ runsOf src, 0 < r.2 := by
  induction src with
  | nil => nofun
  | cons v src ih =>
    rw [runsOf]
    split
    next w n more runs =>
      rw [runs] at ih
      obtain ⟨first, later⟩ := List.forall_mem_cons.mp ih
      split
      · exact List.forall_mem_cons.mpr ⟨Nat.succ_pos n, later⟩
      · exact List.forall_mem_cons.mpr ⟨Nat.one_pos, ih⟩
    next => exact List.forall_mem_singleton.mpr Nat.one_pos

/-- The runs of a sequence make it up. -/
theorem flatMap_runsOf (src : List Nat) : (runsOf src).flatMap (fun r => List.replicate r.2 r.1) = src := by
  induction src with
  | nil => rfl
  | cons v src ih =>
    rw [runsOf]
    split
    next w n more runs =>
      rw [runs] at ih
      split
      next same => subst same; rw [← ih]; rfl
      next => rw [← ih]; rfl
    next none => rw [none] at ih; rw [← ih]; rfl

/-- The entries of any runs, one after the other. -/
theorem Expands.runs {rs : List (Nat × Nat)} (small : ∀ r ∈ rs, r.1 ≤ 15 ∧ 0 < r.2) (before : List Nat) :
    Expands before (rs.flatMap fun r => runEntries r.1 r.2) (rs.flatMap fun r => List.replicate r.2 r.1) := by
  induction rs generalizing before with
  | nil => exact .nil
  | cons r rs ih =>
    obtain ⟨⟨hv, hn⟩, later⟩ := List.forall_mem_cons.mp small
    rw [List.flatMap_cons, List.flatMap_cons]
    exact (Expands.run hv hn before).append (ih later _)

/-- The entries of CCB.RLE expand to its input (R219). -/
theorem rleOf_expands {src : List Nat} (h : ∀ v ∈ src, v ≤ 15) : Expands [] (rleOf src) src := by
  have all := Expands.runs (rs := runsOf src) (fun r hr => ⟨h _ (mem_of_mem_runsOf hr), runsOf_pos r hr⟩) []
  rwa [flatMap_runsOf] at all

/-! ## CCB.RLE -/

theorem rleFreq_eq (es : List RleEntry) : rleFreq es = (List.range 19).map fun k => (es.filter (·.symbol = k)).length := by
  refine List.map_congr_left fun k _ => ?_
  rw [List.count_eq_countP, List.countP_map, List.countP_eq_length_filter]
  rfl

theorem exec_ccbRle {s : State} {src : List Nat} (hf : s.status.fault = none) (ok : lengthsOk src = true) :
    exec (.ccbRle src) s = .next { s.ended (.rle (rleOf src) (rleFreq (rleOf src))) with
      rle := rleOf src, freqCL := .of (rleFreq (rleOf src)) } := by
  rw [exec, execCcbRle, framed_runs hf, if_pos ok]
  rfl

/-- Settles O36: each maximal run expands to itself wherever it stands. -/
theorem rleExpandsToItsInput : Obligations.RleExpandsToItsInput := by
  intro s src hf ok
  have small := lengthsOk_iff.mp ok
  obtain ⟨expand, few, repeats⟩ := rleOf_expands small
  refine ⟨_, _, _, exec_ccbRle hf ok, rfl, expand, fun e => ranged_of_mem_rleOf small, few, fun k e hk rep => ?_,
    rleFreq_eq _⟩
  have nonzero := repeats k e hk rep
  rw [List.append_nil, List.headD_eq_head?_getD, List.head?_reverse] at nonzero
  cases last : (expandRle ((rleOf src).take k) []).getLast? with
  | none => rw [last] at nonzero; exact absurd rfl nonzero
  | some v => rw [last] at nonzero; exact ⟨v, rfl, nonzero⟩

end Sys2Proof.Machine
end

section
/-! PROOFS. The contract of the code lengths (R204 a, b, c). The order of the package-merge (R206) plays no part in it: a
list of level `k` has the leaves and the packages of level `k - 1`, and among any items chosen of it (`Choice`) no symbol
occurs more than `k` times, while the shares `2^(k - occurrences)` of the used symbols, and a half of `2^k` for each item
chosen, come to at most one `2^k` for each used symbol. The last list has `2n - 2` items to choose, and these leave the `n`
used symbols one `2^k` in all: the Kraft inequality. -/

namespace Sys2Proof.Machine

/-! ## The contract -/

/-- R204 (a), (b) and (c): what `Usable` says of the lengths alone. -/
structure MeetsR204 (freq : List Nat) (limit : Nat) (lens : List Nat) : Prop where
  size    : lens.length = freq.length
  used    : ∀ i < freq.length, freq.getD i 0 = 0 ↔ lens.getD i 0 = 0
  bounded : ∀ l ∈ lens, l ≤ limit
  kraft   : kraftSum limit lens ≤ 2 ^ limit

theorem meetsContract_meets {freq lens : List Nat} {limit : Nat} (h : meetsContract freq limit lens = true) :
    MeetsR204 freq limit lens := by
  simp only [meetsContract, Bool.and_eq_true, decide_eq_true_eq, List.all_eq_true, id] at h
  obtain ⟨⟨⟨⟨size, used⟩, bounded⟩, kraft⟩, -⟩ := h
  refine ⟨size, fun i hi => ?_, bounded, kraft⟩
  have hi' : i < lens.length := size ▸ hi
  rw [List.getD_eq_getElem _ _ hi, List.getD_eq_getElem _ _ hi']
  have inside : i < (List.zipWith (fun f l => decide (f = 0 ↔ l = 0)) freq lens).length := by
    rw [List.length_zipWith, size, Nat.min_self]; exact hi
  simpa using used _ (List.getElem_mem inside)

/-- The length 1 for every used symbol takes half of the code for each. -/
theorem kraftSum_ones (limit : Nat) (freq : List Nat) :
    kraftSum limit (freq.map fun f => if f > 0 then 1 else 0) = (freq.filter (· > 0)).length * 2 ^ (limit - 1) := by
  rw [kraftSum, List.map_map]
  induction freq with
  | nil => exact (Nat.zero_mul _).symm
  | cons f freq ih =>
    rw [List.map_cons, List.sum_cons, ih]
    by_cases pos : f > 0
    · simp [pos, Nat.add_mul, Nat.add_comm]
    · simp [pos]

/-- No used symbol, or one with the length 1 (R202). -/
theorem few_meets {freq : List Nat} {limit : Nat} (low : 1 ≤ limit) (few : (freq.filter (· > 0)).length ≤ 1) :
    MeetsR204 freq limit (freq.map fun f => if f > 0 then 1 else 0) := by
  refine ⟨List.length_map _, fun i hi => ?_, fun l hl => ?_, ?_⟩
  · rw [List.getD_eq_getElem _ _ hi, List.getD_eq_getElem _ _ (by rwa [List.length_map]), List.getElem_map]
    split <;> omega
  · obtain ⟨f, -, rfl⟩ := List.mem_map.mp hl
    split <;> omega
  · calc kraftSum limit _ = (freq.filter (· > 0)).length * 2 ^ (limit - 1) := kraftSum_ones limit freq
      _ ≤ 1 * 2 ^ (limit - 1) := Nat.mul_le_mul_right _ few
      _ ≤ 2 ^ limit := (Nat.one_mul _).le.trans (Nat.pow_le_pow_right Nat.two_pos (Nat.sub_le ..))

/-! ## The leaves (R203) -/

/-- The symbols of some items. -/
def symbolsOf (items : List Item) : List Nat := items.flatMap Item.symbols

theorem insertLeaf_perm (x : Item) (l : List Item) : (insertLeaf x l).Perm (x :: l) := by
  induction l with
  | nil => exact .refl _
  | cons y l ih =>
    rw [insertLeaf]
    split
    · exact .refl _
    · exact (ih.cons y).trans (.swap ..)

theorem sortedLeaves_perm (freq : List Nat) : (sortedLeaves freq).Perm (leavesFrom 0 freq) := by
  have fold (xs l : List Item) : (xs.foldl (fun l x => insertLeaf x l) l).Perm (xs ++ l) := by
    induction xs generalizing l with
    | nil => exact .refl _
    | cons x xs ih => exact (ih _).trans (((insertLeaf_perm x l).append_left xs).trans List.perm_middle)
  exact (fold _ []).trans (.of_eq (List.append_nil _))

theorem symbolsOf_append (xs ys : List Item) : symbolsOf (xs ++ ys) = symbolsOf xs ++ symbolsOf ys := List.flatMap_append

theorem symbolsOf_perm {xs ys : List Item} (h : xs.Perm ys) : (symbolsOf xs).Perm (symbolsOf ys) := h.flatMap_right _

theorem leavesFrom_eq (i : Nat) (freq : List Nat) :
    leavesFrom i freq = ((freq.zipIdx i).filter (·.1 > 0)).map fun p => ⟨p.1, [p.2]⟩ := by
  induction freq generalizing i with
  | nil => rfl
  | cons f freq ih =>
    rw [leavesFrom, List.zipIdx_cons, ih]
    by_cases pos : f > 0
    · rw [if_pos pos, List.filter_cons_of_pos (by simpa using pos)]; rfl
    · rw [if_neg pos, List.filter_cons_of_neg (by simpa using pos)]

theorem symbolsOf_leavesFrom (i : Nat) (freq : List Nat) :
    symbolsOf (leavesFrom i freq) = ((freq.zipIdx i).filter (·.1 > 0)).map Prod.snd := by
  rw [symbolsOf, leavesFrom_eq, List.flatMap_map, List.map_eq_flatMap]

/-- Every leaf has one symbol, and no two have the same. -/
structure OneLeafEach (leaves : List Item) : Prop where
  single : ∀ x ∈ leaves, x.symbols.length = 1
  nodup  : (symbolsOf leaves).Nodup

theorem sortedLeaves_oneEach (freq : List Nat) : OneLeafEach (sortedLeaves freq) := by
  have perm := sortedLeaves_perm freq
  constructor
  · intro x hx
    rw [perm.mem_iff, leavesFrom_eq] at hx
    obtain ⟨p, -, rfl⟩ := List.mem_map.mp hx
    rfl
  · rw [(symbolsOf_perm perm).nodup_iff, symbolsOf_leavesFrom]
    refine .sublist (List.filter_sublist.map _) ?_
    rw [List.zipIdx_map_snd]
    exact List.nodup_range'

theorem length_sortedLeaves (freq : List Nat) : (sortedLeaves freq).length = (freq.filter (· > 0)).length := by
  rw [(sortedLeaves_perm freq).length_eq, leavesFrom_eq, List.length_map, ← List.countP_eq_length_filter,
    ← List.countP_eq_length_filter]
  conv_rhs => rw [← List.zipIdx_map_fst 0 freq, List.countP_map]
  rfl

theorem mem_symbolsOf_sortedLeaves {freq : List Nat} {s : Nat} :
    s ∈ symbolsOf (sortedLeaves freq) ↔ freq.getD s 0 ≠ 0 := by
  rw [(symbolsOf_perm (sortedLeaves_perm freq)).mem_iff, symbolsOf_leavesFrom, List.getD_eq_getElem?_getD]
  simp only [List.mem_map, List.mem_filter, Prod.exists, List.mem_zipIdx_iff_getElem?]
  cases h : freq[s]? <;> simp [h, Nat.pos_iff_ne_zero]

/-! ## Packages and levels (R206) -/

theorem mergeItems_perm (fuel : Nat) (leaves packs : List Item) :
    (mergeItems fuel leaves packs).Perm (leaves ++ packs) := by
  induction fuel generalizing leaves packs with
  | zero => exact .refl _
  | succ fuel ih =>
    cases leaves with
    | nil => cases packs <;> exact .refl _
    | cons x leaves =>
      cases packs with
      | nil => exact .of_eq (List.append_nil _).symm
      | cons p packs =>
        rw [mergeItems]
        split
        · exact (ih leaves (p :: packs)).cons x
        · exact ((ih (x :: leaves) packs).cons p).trans List.perm_middle.symm

theorem length_packages : ∀ items : List Item, (packages items).length = items.length / 2
  | [] => rfl
  | [_] => (Nat.div_eq_of_lt Nat.one_lt_two).symm
  | _ :: _ :: items => by
    rw [packages, List.length_cons, length_packages items, List.length_cons, List.length_cons]
    omega

/-- Packages chosen are items chosen of the level below, two for each. -/
theorem unpack : ∀ {items chosen : List Item}, chosen.Sublist (packages items) →
    ∃ below, below.Sublist items ∧ below.length = 2 * chosen.length ∧ symbolsOf below = symbolsOf chosen
  | [], _, .slnil => ⟨[], .slnil, rfl, rfl⟩
  | [_], _, .slnil => ⟨[], .cons _ .slnil, rfl, rfl⟩
  | a :: b :: items, chosen, h => by
    rw [packages, List.sublist_cons_iff] at h
    rcases h with h | ⟨chosen, rfl, h⟩
    · obtain ⟨below, sub, length, symbols⟩ := unpack h
      exact ⟨below, (sub.cons b).cons a, length, symbols⟩
    · obtain ⟨below, sub, length, symbols⟩ := unpack h
      refine ⟨a :: b :: below, (sub.cons_cons b).cons_cons a, by simp only [List.length_cons, length]; omega, ?_⟩
      simp only [symbolsOf, List.flatMap_cons] at symbols ⊢
      rw [symbols, List.append_assoc]

/-- Chosen leaves have one symbol each. -/
theorem OneLeafEach.length_symbolsOf {leaves top : List Item} (h : OneLeafEach leaves) (sub : top.Sublist leaves) :
    (symbolsOf top).length = top.length := by
  rw [symbolsOf, List.length_flatMap, List.map_congr_left fun x hx => h.single x (sub.subset hx)]
  simp

/-- What items chosen of level `k` come to: no symbol of `used` occurs more than `k` times and no other one at all; and
each item takes its half of `2^k`. -/
structure Choice (used : Finset Nat) (k : Nat) (chosen : List Item) : Prop where
  few    : ∀ s, (symbolsOf chosen).count s ≤ k
  inside : ∀ s ∈ symbolsOf chosen, s ∈ used
  room   : 2 * ∑ s ∈ used, 2 ^ (k - (symbolsOf chosen).count s) + chosen.length * 2 ^ k ≤ 2 * (used.card * 2 ^ k)

theorem Choice.of_perm {used : Finset Nat} {k : Nat} {xs ys : List Item} (h : Choice used k xs) (perm : ys.Perm xs) :
    Choice used k ys := by
  have symbols := symbolsOf_perm perm
  refine ⟨fun s => symbols.count_eq s ▸ h.few s, fun s hs => h.inside s (symbols.mem_iff.mp hs), ?_⟩
  simp only [symbols.count_eq, perm.length_eq]
  exact h.room

/-- One symbol's share when its leaf is chosen (`e = 1`) or not (`e = 0`) above `c` occurrences. -/
theorem share_le {k c e : Nat} (hc : c ≤ k) (he : e ≤ 1) : 2 ^ (k + 1 - (e + c)) + e * 2 ^ k ≤ 2 ^ k + 2 ^ (k - c) := by
  have low : 2 ^ (k - c) ≤ 2 ^ k := Nat.pow_le_pow_right Nat.two_pos (Nat.sub_le ..)
  rcases Nat.le_one_iff_eq_zero_or_eq_one.mp he with rfl | rfl
  · rw [Nat.zero_add, Nat.succ_sub hc, Nat.pow_succ]; omega
  · rw [Nat.add_comm 1 c, Nat.add_sub_add_right]; omega

/-- Leaves chosen with packages, whose items below are a choice. -/
theorem Choice.step {leaves top packs below : List Item} {k : Nat} (each : OneLeafEach leaves) (sub : top.Sublist leaves)
    (h : Choice (symbolsOf leaves).toFinset k below) (length : below.length = 2 * packs.length)
    (symbols : symbolsOf below = symbolsOf packs) : Choice (symbolsOf leaves).toFinset (k + 1) (top ++ packs) := by
  obtain ⟨few, inside, room⟩ := h
  have subset : (symbolsOf top).Sublist (symbolsOf leaves) := sub.flatMap _
  have once (s : Nat) : (symbolsOf top).count s ≤ 1 := List.nodup_iff_count_le_one.mp (each.nodup.sublist subset) s
  have counts (s : Nat) : (symbolsOf (top ++ packs)).count s = (symbolsOf top).count s + (symbolsOf below).count s := by
    rw [symbolsOf_append, List.count_append, symbols]
  refine ⟨fun s => ?_, fun s hs => ?_, ?_⟩
  · have := once s; have := few s; rw [counts]; omega
  · rw [symbolsOf_append, ← symbols] at hs
    exact (List.mem_append.mp hs).elim (fun hs => List.mem_toFinset.mpr (subset.subset hs)) (inside s)
  · simp only [counts]
    have shares := Finset.sum_le_sum fun s (_ : s ∈ (symbolsOf leaves).toFinset) => share_le (few s) (once s)
    rw [Finset.sum_add_distrib, Finset.sum_add_distrib, ← Finset.sum_mul, Finset.sum_const, smul_eq_mul] at shares
    have total : ∑ s ∈ (symbolsOf leaves).toFinset, (symbolsOf top).count s = top.length := by
      rw [← each.length_symbolsOf sub]
      simpa only [Multiset.coe_count, Multiset.coe_card] using
        Multiset.sum_count_eq_card (m := symbolsOf top) fun s hs => List.mem_toFinset.mpr (subset.subset hs)
    rw [total] at shares
    rw [length] at room
    rw [List.length_append, Nat.pow_succ]
    linarith

/-- In a list of the package-merge, whatever items are chosen. -/
def Level (leaves : List Item) (k : Nat) (items : List Item) : Prop :=
  ∀ chosen, chosen.Subperm items → Choice (symbolsOf leaves).toFinset k chosen

section
variable {leaves : List Item} (each : OneLeafEach leaves)
include each

theorem Level.merge {k fuel : Nat} {items : List Item} (h : Level leaves k items) :
    Level leaves (k + 1) (mergeItems fuel leaves (packages items)) := by
  intro chosen sub
  obtain ⟨chosen', perm, sub⟩ := sub.trans (mergeItems_perm fuel leaves (packages items)).subperm
  obtain ⟨top, packs, rfl, top_sub, packs_sub⟩ := List.sublist_append_iff.mp sub
  obtain ⟨below, below_sub, length, symbols⟩ := unpack packs_sub
  exact (Choice.step each top_sub (h below below_sub.subperm) length symbols).of_perm perm.symm

theorem Level.packageLevels {k : Nat} {items : List Item} (h : Level leaves k items) (n : Nat) :
    Level leaves (k + n) (packageLevels leaves n items) := by
  induction n generalizing k items with
  | zero => exact h
  | succ n ih =>
    rw [Machine.packageLevels, Nat.add_comm n, ← Nat.add_assoc]
    exact ih (h.merge each)

end

theorem Level.nil (leaves : List Item) : Level leaves 0 [] := by
  intro chosen sub
  cases List.subperm_nil.mp sub
  exact ⟨fun _ => le_rfl, nofun, by simp [symbolsOf]⟩

/-- The levels reach `2n - 2` items within `L` where `n ≤ 2^L`: each halves what is missing to `2n`. -/
theorem length_packageLevels {leaves items : List Item} {n : Nat} (h : 2 * leaves.length ≤ items.length + 2 ^ (n + 1)) :
    2 * leaves.length ≤ (packageLevels leaves n items).length + 2 := by
  induction n generalizing items with
  | zero => exact h
  | succ n ih =>
    rw [packageLevels]
    apply ih
    rw [(mergeItems_perm ..).length_eq, List.length_append, length_packages]
    rw [Nat.pow_succ] at h
    omega

/-- The first list of the package-merge, the leaves alone, is the level above no items. -/
theorem packageLevels_leaves (leaves : List Item) {limit : Nat} (low : 1 ≤ limit) :
    packageLevels leaves (limit - 1) leaves = packageLevels leaves limit [] := by
  obtain ⟨n, rfl⟩ := Nat.exists_eq_add_one_of_ne_zero (Nat.ne_of_gt low)
  rw [Nat.add_sub_cancel, packageLevels]
  cases leaves <;> rfl

/-! ## The reference function (R206) -/

/-- The items the reference function counts. -/
def chosenItems (freq : List Nat) (limit : Nat) : List Item :=
  (packageLevels (sortedLeaves freq) limit []).take (2 * (sortedLeaves freq).length - 2)

theorem referenceLengths_eq {freq : List Nat} {limit : Nat} (low : 1 ≤ limit) :
    referenceLengths freq limit = occurrences freq.length (chosenItems freq limit) := by
  rw [referenceLengths, packageLevels_leaves _ low, chosenItems]

theorem chosenItems_choice (freq : List Nat) (limit : Nat) :
    Choice (symbolsOf (sortedLeaves freq)).toFinset limit (chosenItems freq limit) := by
  have level := (Level.nil _).packageLevels (sortedLeaves_oneEach freq) limit
  rw [Nat.zero_add] at level
  exact level _ (List.take_sublist ..).subperm

theorem length_chosenItems {freq : List Nat} {limit : Nat} (fits : (sortedLeaves freq).length ≤ 2 ^ limit) :
    (chosenItems freq limit).length = 2 * (sortedLeaves freq).length - 2 := by
  have enough := length_packageLevels (leaves := sortedLeaves freq) (items := []) (n := limit)
    (by rw [Nat.pow_succ, List.length_nil]; omega)
  rw [chosenItems, List.length_take]
  omega

section
variable {used : Finset Nat} {k : Nat} {chosen : List Item} (h : Choice used k chosen)
  (size : chosen.length = 2 * used.card - 2) (two : 2 ≤ used.card)
include h size two

/-- The Kraft inequality of `2n - 2` items. -/
theorem Choice.kraft : ∑ s ∈ used, 2 ^ (k - (symbolsOf chosen).count s) ≤ 2 ^ k := by
  have room := h.room
  obtain ⟨n, hn⟩ := Nat.exists_eq_add_of_le two
  rw [size, hn, show 2 * (2 + n) - 2 = 2 * (1 + n) by omega] at room
  linarith

/-- Among `2n - 2` items every symbol occurs: one that did not would take all of `2^k`. -/
theorem Choice.occurs {s : Nat} (hs : s ∈ used) : (symbolsOf chosen).count s ≠ 0 := by
  intro zero
  obtain ⟨r, hr, other⟩ := Finset.exists_mem_ne (s := used) two s
  have kraft := h.kraft size two
  rw [← Finset.add_sum_erase _ _ hs, zero, Nat.sub_zero] at kraft
  have more : 2 ^ (k - (symbolsOf chosen).count r) ≤ ∑ s ∈ used.erase s, 2 ^ (k - (symbolsOf chosen).count s) :=
    Finset.single_le_sum (f := fun s => 2 ^ (k - (symbolsOf chosen).count s)) (fun _ _ => Nat.zero_le _)
      (Finset.mem_erase.mpr ⟨other, hr⟩)
  have := Nat.two_pow_pos (k - (symbolsOf chosen).count r)
  omega

end

theorem kraftSum_occurrences_le {used : Finset Nat} {chosen : List Item} (inside : ∀ s ∈ symbolsOf chosen, s ∈ used)
    (k n : Nat) :
    kraftSum k (occurrences n chosen) ≤ ∑ s ∈ used, 2 ^ (k - (symbolsOf chosen).count s) := by
  have sum : kraftSum k (occurrences n chosen) = ∑ s ∈ Finset.range n,
      if (symbolsOf chosen).count s = 0 then 0 else 2 ^ (k - (symbolsOf chosen).count s) := by
    rw [kraftSum, occurrences, List.map_map]; rfl
  rw [sum, Finset.sum_ite, Finset.sum_const_zero, Nat.zero_add]
  refine Finset.sum_le_sum_of_subset fun s hs => inside s ?_
  exact List.count_pos_iff.mp (Nat.pos_of_ne_zero (Finset.mem_filter.mp hs).2)

theorem getD_occurrences {chosen : List Item} {n i : Nat} (hi : i < n) :
    (occurrences n chosen).getD i 0 = (symbolsOf chosen).count i := by
  rw [List.getD_eq_getElem?_getD, occurrences, List.getElem?_map, List.getElem?_range hi]
  rfl

/-- The reference function meets R204 (a), (b) and (c). -/
theorem referenceLengths_meets {freq : List Nat} {limit : Nat} (low : 1 ≤ limit)
    (more : 2 ≤ (freq.filter (· > 0)).length) (fits : (freq.filter (· > 0)).length ≤ 2 ^ limit) :
    MeetsR204 freq limit (referenceLengths freq limit) := by
  have each := sortedLeaves_oneEach freq
  have choice := chosenItems_choice freq limit
  rw [← length_sortedLeaves] at more fits
  have card : (symbolsOf (sortedLeaves freq)).toFinset.card = (sortedLeaves freq).length := by
    rw [List.toFinset_card_of_nodup each.nodup, each.length_symbolsOf (.refl _)]
  have size := length_chosenItems fits
  rw [← card] at size more
  rw [referenceLengths_eq low]
  refine ⟨by rw [occurrences, List.length_map, List.length_range], fun i hi => ?_, fun l hl => ?_,
    (kraftSum_occurrences_le choice.inside ..).trans (choice.kraft size more)⟩
  · rw [getD_occurrences hi]
    refine ⟨fun unused => List.count_eq_zero.mpr fun mem => ?_, fun zero => ?_⟩
    · exact mem_symbolsOf_sortedLeaves.mp (List.mem_toFinset.mp (choice.inside i mem)) unused
    · by_contra some
      exact choice.occurs size more (List.mem_toFinset.mpr (mem_symbolsOf_sortedLeaves.mpr some)) zero
  · obtain ⟨s, -, rfl⟩ := List.mem_map.mp hl
    exact choice.few s

/-- The parameter CodeLengths meets R204 (a), (b) and (c), whatever it is. -/
theorem codeLengths_meets (p : Config.Params) {freq : List Nat} {limit : Nat} (low : 1 ≤ limit)
    (more : 2 ≤ (freq.filter (· > 0)).length) (fits : (freq.filter (· > 0)).length ≤ 2 ^ limit) :
    MeetsR204 freq limit (codeLengths p freq limit) := by
  have reference := referenceLengths_meets low more fits
  rw [codeLengths]
  split
  · split
    next meets => exact meetsContract_meets meets
    next => exact reference
  · exact reference

/-- Settles O60: none or one used symbol, or the parameter CodeLengths. -/
theorem codeLengthsMeetTheContract : Obligations.CodeLengthsMeetTheContract := by
  intro p freq limit low fits
  obtain ⟨lens, answer, size, used, bounded, kraft⟩ :
      ∃ lens, ccbLengths p freq limit = .ok lens ∧ MeetsR204 freq limit lens := by
    rcases Nat.lt_or_ge (freq.filter (· > 0)).length 2 with few | more
    · exact ⟨_, ccbLengths_few (Nat.le_of_lt_succ few), few_meets low (Nat.le_of_lt_succ few)⟩
    · exact ⟨_, ccbLengths_within more fits, codeLengths_meets p low more fits⟩
  exact ⟨lens, answer, size, used, bounded, kraft⟩

end Sys2Proof.Machine
end

section
/-! PROOFS. What the packer refuses (R235, R238): a symbol or a distance without a code, an extra field that does not match
its table. -/

namespace Sys2Proof.Machine

/-! ## The checks, in the packer's order -/

theorem packSymbol_uncoded {s : State} {k : Nat} (bad : k > 285 ∨ s.lenLL.entries.getD k 0 = 0) :
    packSymbol k s = .error (raise .eApi k s) := by
  rw [packSymbol]
  split
  · rfl
  next named => rw [if_pos (bad.resolve_left named)]

/-- A coded symbol passes, whatever the writer holds, as long as it is open. -/
theorem packSymbol_writerOnly {s : State} {k : Nat} (ho : s.bw.isOpen = true) (hk : k ≤ 285)
    (hc : Coded s.lenLL s.codeLL k) : ∃ u, packSymbol k s = .ok u ∧ WriterOnly s u := by
  obtain ⟨some, width, fits⟩ := hc
  rw [packSymbol, if_neg (Nat.not_lt.mpr hk), if_neg some]
  exact ⟨_, bwWrite_ok ho (width.trans (by decide)) fits, _, rfl⟩

theorem packMatch_uncoded {s : State} {t eb ev d deb dev : Nat} (bad : d > 29 ∨ s.lenD.entries.getD d 0 = 0) :
    packMatch t eb ev d deb dev s = .error (raise .eApi d s) := by
  rw [packMatch, if_pos bad]

theorem packMatch_badExtra {s : State} {t eb ev d deb dev : Nat} (hd : d ≤ 29) (coded : s.lenD.entries.getD d 0 ≠ 0)
    (bad : eb ≠ lenExtra.getD (t - 257) 0 ∨ ev ≥ 2 ^ eb ∨ deb ≠ distExtra.getD d 0 ∨ dev ≥ 2 ^ deb) :
    packMatch t eb ev d deb dev s = .error (raise .eApi t s) := by
  rw [packMatch, if_neg (not_or.mpr ⟨Nat.not_lt.mpr hd, coded⟩), if_pos bad]

/-! ## The faults of a match -/

section
variable {s : State} {lc : BitVec 8} {le lv dc de dv : Slot}

theorem tMatch_raises_of_symbol {f : FaultCode} {info : Nat}
    (refused : packSymbol (256 + lc.toNat) s = .error (raise f info s)) : Raises (.tMatch lc le lv dc de dv) f info s :=
  .of_exec (t := s) (by rw [exec, execTMatch, refused]) rfl

/-- After the symbol's code, the fields are checked with only the writer changed. -/
theorem tMatch_raises_of_fields {f : FaultCode} {info : Nat} {u : State}
    (symbol : packSymbol (256 + lc.toNat) s = .ok u) (only : WriterOnly s u)
    (refused : packMatch (256 + lc.toNat) le.toNat lv.toNat dc.toNat de.toNat dv.toNat u = .error (raise f info u)) :
    Raises (.tMatch lc le lv dc de dv) f info s := by
  refine .of_exec (t := u) ?_ only.host
  rw [exec, execTMatch, symbol]
  dsimp only
  rw [refused]
  rfl

end

/-- Settles O41: each check of the packer in turn. -/
theorem badTokensAreApiFaults : Obligations.BadTokensAreApiFaults := by
  intro s ho
  refine ⟨fun b uncoded => ?_, fun uncoded => ?_, fun lc le lv dc de dv =>
    ⟨fun bad => ?_, fun low high some width fits => ?_⟩⟩
  · exact .of_exec (t := s) (by rw [exec, execTLit, packSymbol_uncoded (.inr uncoded)]; rfl) rfl
  · exact .of_exec (t := s) (by rw [exec, execTEob, packSymbol_uncoded (.inr uncoded)]; rfl) rfl
  · exact tMatch_raises_of_symbol (packSymbol_uncoded (bad.imp_left fun above => by omega))
  · obtain ⟨_, symbol, w, rfl⟩ := packSymbol_writerOnly ho (k := 256 + lc.toNat) (by omega) ⟨some, width, fits⟩
    refine ⟨fun bad => ?_, fun hd coded bad => ?_⟩
    · exact tMatch_raises_of_fields symbol ⟨w, rfl⟩ (packMatch_uncoded bad)
    · refine tMatch_raises_of_fields symbol ⟨w, rfl⟩ (packMatch_badExtra hd coded ?_)
      rwa [show 256 + lc.toNat - 257 = lc.toNat - 1 by omega]

end Sys2Proof.Machine
end

section
/-! PROOFS. Two elements of the bit stream: the block header (R261, R265, R305) and the literal (R273, R277). -/

namespace Sys2Proof.Machine

/-! ## Block headers -/

/-- The registers a block header sets. -/
def State.withHeader (final : Bool) (ty : BType) (s : State) : State :=
  { s with dec := { s.dec with bfinal := final, btype := ty } }

theorem blockHeader_eq (final : Bool) (ty : BType) (s : State) :
    blockHeader final ty s = (s.withHeader final ty).streamState .blockHeaderEnd := rfl

section
variable {s : State} {j : Job} {ph : Phase} (h : s.seq = .decode j ph)
include h

/-- Of two settings of SDEC.state the later one counts. -/
theorem streamState_streamState (x y : SdecState) : (s.streamState x).streamState y = s.streamState y := by
  rw [streamState_of_decode ((streamState_seq x s).trans h), streamState_of_decode h, streamState_of_decode h]
  split <;> rfl

/-- The fixed tables stand beside SDEC.state. -/
theorem useFixedTables_streamState (x : SdecState) :
    useFixedTables (s.streamState x) = (useFixedTables s).streamState x := by
  rw [streamState_of_decode h, streamState_of_decode (s := useFixedTables s) h]
  rfl

/-- After a block header the decode goes on, in a streaming call also with another SDEC.state. -/
theorem goto_blockHeader (final : Bool) (ty : BType) (x : SdecState) (next : Phase) :
    ((blockHeader final ty s).streamState x).goto next =
      { s.withHeader final ty with
        sdec := if j = .stream then { s.sdec with state := x } else s.sdec, seq := .decode j next } := by
  have seq : (s.withHeader final ty).seq = .decode j ph := h
  rw [blockHeader_eq, streamState_streamState seq]
  exact goto_streamState seq x next

theorem goto_fixedHeader (final : Bool) (x : SdecState) (next : Phase) :
    ((useFixedTables (blockHeader final .fixed s)).streamState x).goto next =
      { useFixedTables (s.withHeader final .fixed) with
        sdec := if j = .stream then { s.sdec with state := x } else s.sdec, seq := .decode j next } := by
  have seq : (s.withHeader final .fixed).seq = .decode j ph := h
  have seq' : (useFixedTables (s.withHeader final .fixed)).seq = .decode j ph := h
  rw [blockHeader_eq, useFixedTables_streamState seq, streamState_streamState seq']
  exact goto_streamState seq' x next

end

/-- Settles O42: a header sets the registers, and the reserved type is the fault of R132. -/
theorem blockHeadersSelectTheBlock : Obligations.BlockHeadersSelectTheBlock := by
  intro s j ph final h state
  refine ⟨congrArg _ (goto_blockHeader h final .stored .blockBodyStart .stored),
    congrArg _ (goto_fixedHeader h final .decodeBlockStart .litLen),
    congrArg _ (goto_blockHeader h final .dynamic .blockBodyStart .dynHdr), ?_⟩
  exact .of_exec (t := blockHeader final .reserved s) rfl (blockHeader_onward final .reserved s).host

/-! ## Literals -/

theorem emit_room {s : State} (h : s.job = some .block ∨ s.params.maxOutputBytes ≠ some s.dec.op) (b : Byte) :
    emit b s = .ok (s.withOut (s.dec.out ++ [b])) := by
  rw [emit, if_neg fun ⟨other, full⟩ => h.elim other (· full)]
  rfl

theorem emit_full {s : State} (h : s.job ≠ some .block) (full : s.params.maxOutputBytes = some s.dec.op) (b : Byte) :
    emit b s = .error (raise .eOverflow s.dec.op s) := by
  rw [emit, if_pos ⟨h, full⟩]

/-- Settles O47: by the two answers of Emit. -/
theorem literalAppendsItsByte : Obligations.LiteralAppendsItsByte := by
  intro s j ph b h
  have job := job_of_decode h
  refine ⟨fun room => ?_, fun bound full => .of_exec (t := s) ?_ rfl⟩
  · dsimp only [exec]
    rw [execLit, emit_room (room.imp_left fun e => e ▸ job)]
    exact congrArg _ (goto_of_decode (s := s.withOut (s.dec.out ++ [b])) h .litLen)
  · dsimp only [exec]
    rw [execLit, emit_full (by rw [job]; exact fun e => bound (Option.some.inj e)) full]
    rfl

end Sys2Proof.Machine
end

section
/-! PROOFS. The two buffer strategies (R283, R284, R285). Two decodes of one input run abreast: turn by turn their
states are the same but for CFG, the job and DEC.blocks, until both end alike, or the one under a ceiling (R277)
overflows. -/

namespace Sys2Proof.Machine

/-! ## Operations as a first part and the rest -/

theorem readClLengths_cons (sym : Nat) (order lens : List Nat) (s : State) :
    readClLengths (sym :: order) lens s = (readBits 3 s).bind fun x => readClLengths order (lens.set sym x.1) x.2 := by
  rw [readClLengths]; cases readBits 3 s <;> rfl

theorem copyMatch_succ (distance n : Nat) (s : State) :
    copyMatch distance (n + 1) s =
      (emit (s.dec.out.getD (s.dec.op - distance) 0) s).bind (copyMatch distance n) := by
  rw [copyMatch]; cases emit _ s <;> rfl

theorem copyStored_whole {s : State} (h : s.job ≠ some .stream) (n : Nat) :
    copyStored (n + 1) s = (readBits 8 (flushBlocks s)).bind fun x =>
      (emit (BitVec.ofNat 8 x.1) x.2).bind fun s => copyStored n { s with dec := { s.dec with blockLen := n } } := by
  rw [copyStored, if_neg fun c => h c.2]
  rcases readBits 8 (flushBlocks s) with _ | ⟨v, s⟩
  · rfl
  · dsimp only [Except.bind]; cases emit _ s <;> rfl

theorem finishHeader_eq (s : State) :
    finishHeader s = (buildHeaderTable (s.dec.hdr.lens.take s.dec.hdr.hlit) s).bind fun x =>
      (buildHeaderTable ((x.2.dec.hdr.lens.drop x.2.dec.hdr.hlit).take x.2.dec.hdr.hdist) x.2).map fun y =>
        (({ y.2 with dec := { y.2.dec with ll := x.1, d := y.1 } } : State).streamState .decodeBlockStart).goto
          .litLen := by
  rw [finishHeader]
  rcases buildHeaderTable _ s with _ | ⟨ll, s⟩
  · rfl
  · dsimp only [Except.bind]; cases buildHeaderTable _ s <;> rfl

theorem dynamicHeader_eq {hlit hdist : Nat} (low : hlit ≤ 286) (low' : hdist ≤ 30) (hclen : Nat) (s : State) :
    dynamicHeader hlit hdist hclen s =
      (readClLengths (clOrder.take hclen) (List.replicate Config.nCl 0) s).bind fun x =>
        (buildHeaderTable x.1 { x.2 with lenCL := .of x.1 }).map fun y =>
          (y.2.headerBuilt hlit hdist y.1).goto .clSym := by
  rw [dynamicHeader, if_neg (Nat.not_lt.mpr low), if_neg (Nat.not_lt.mpr low')]
  rcases readClLengths _ _ s with _ | ⟨lens, s⟩
  · rfl
  · dsimp only [Except.bind]; cases buildHeaderTable _ _ <;> rfl

theorem fetchSymbol_eq (f : Format) (width : Nat) (t : DecodeTable) (extra : Nat → Nat) (s : State) :
    fetchSymbol f width t extra s = (readSymbol t s).bind fun x =>
      (readBits (extra x.1) x.2).map fun y => ({ format := f, word := x.1 + 2 ^ width * y.1 }, y.2) := by
  rw [fetchSymbol]
  rcases readSymbol t s with _ | ⟨sym, s⟩
  · rfl
  · dsimp only [Except.bind]; cases readBits _ s <;> rfl

theorem fetchFields_eq (f : Format) (n m : Nat) (s : State) :
    fetchFields f n m s = (readBits n s).bind fun x =>
      (readBits m x.2).map fun y => ({ format := f, word := x.1 + 2 ^ n * y.1 }, y.2) := by
  rw [fetchFields]
  rcases readBits n s with _ | ⟨v, s⟩
  · rfl
  · dsimp only [Except.bind]; cases readBits _ s <;> rfl

theorem fetchCounts_eq (s : State) :
    fetchCounts s = (fetchFields .dynHdr 5 5 s).bind fun x =>
      (readBits 4 x.2).map fun y => ({ x.1 with word := x.1.word + 2 ^ 10 * y.1 }, y.2) := by
  rw [fetchCounts]
  rcases fetchFields .dynHdr 5 5 s with _ | ⟨r, s⟩
  · rfl
  · dsimp only [Except.bind]; cases readBits _ s <;> rfl

/-- Setting completed blocks aside keeps them a beginning of the output (R283). -/
theorem flushBlocks_prefix {s : State} (h : s.dec.blocks.flatten <+: s.dec.out) :
    (flushBlocks s).dec.blocks.flatten <+: (flushBlocks s).dec.out := by
  have tail : s.dec.blocks.flatten ++ s.dec.out.drop s.dec.flushed = s.dec.out := by
    rw [Dec.flushed_eq]; exact List.prefix_iff_eq_append.mp h
  unfold flushBlocks
  split
  · dsimp only
    split
    · conv_rhs => rw [← tail]
      rw [List.flatten_append, List.flatten_singleton]
      exact (List.prefix_append_right_inj _).mpr (List.take_prefix _ _)
    · exact h
  · exact h

/-! ## Two decodes abreast -/

/-- What a decode has beside CFG, the sequencer and the completed blocks. -/
def State.shared (s : State) : State :=
  { s with cfg := default, seq := .idle, dec := { s.dec with blocks := [] } }

/-- Two jobs of DEC.* such that the second has no ceiling the first has not (R277). -/
structure Job.Pair (j k : Job) : Prop where
  left  : j ≠ .stream
  right : k ≠ .stream
  loose : k = .block ∨ k = j

/-- The job `j` in `s` and the job `k` in `t` stand before the same element; the completed blocks of either hold a
beginning of the output (R283). -/
structure Abreast (j k : Job) (s t : State) : Prop where
  jobs    : j.Pair k
  shared  : t.shared = s.shared
  seq     : ∃ ph, s.seq = .decode j ph ∧ t.seq = .decode k ph
  clear   : s.status.fault = none
  blocks  : s.dec.blocks.flatten <+: s.dec.out
  blocks' : t.dec.blocks.flatten <+: t.dec.out

/-- Both commands have ended, and alike. -/
structure SameEnd (k : Job) (s t : State) : Prop where
  shared : t.shared = s.shared
  idle   : s.seq = .idle
  idle'  : t.seq = .idle
  free   : k = .block → t.status.fault ≠ some .eOverflow

/-- The first command has ended at the ceiling, which the second has not. -/
structure Overflowed (j k : Job) (s : State) : Prop where
  jobs  : j ≠ k
  idle  : s.seq = .idle
  fault : s.status.fault = some .eOverflow

/-- Operations of the two decodes: both go on with values of which `G` holds, both end the command alike, or the first
ends at the ceiling. -/
inductive Agrees (j k : Job) {α : Type} (G : α → α → Prop) : Act α → Act α → Prop
  | goes {x y : α} (h : G x y) : Agrees j k G (.ok x) (.ok y)
  | ends {s t : State} (h : SameEnd k s t) : Agrees j k G (.error s) (.error t)
  | overflows {s : State} {b : Act α} (h : Overflowed j k s) : Agrees j k G (.error s) b

/-- The same for a step. -/
inductive Together (j k : Job) : Outcome → Outcome → Prop
  | goes {s t : State} (h : Abreast j k s t) : Together j k (.next s) (.next t)
  | ends {s t : State} (h : SameEnd k s t) : Together j k (.next s) (.next t)
  | overflows {s : State} {o : Outcome} (h : Overflowed j k s) : Together j k (.next s) o

/-- The same value is read in either. -/
def SameRead (j k : Job) {α : Type} (x y : α × State) : Prop := y.1 = x.1 ∧ Abreast j k x.2 y.2

/-- The same element of the bit stream is fetched in either. -/
structure SameFetch (j k : Job) (x y : Raw × State) : Prop where
  raw    : y.1 = x.1
  token  : x.1.format ≠ .token
  entry  : x.1.format ≠ .dte
  states : Abreast j k x.2 y.2

/-- The element is over: its command goes on, or has ended. -/
def Onto (j k : Job) (s t : State) : Prop := Abreast j k s t ∨ SameEnd k s t

section
variable {j k : Job} {s t : State}

namespace Agrees
variable {α β : Type} {G : α → α → Prop} {H : β → β → Prop} {a b : Act α}

theorem bind {f g : α → Act β} (h : Agrees j k G a b) (next : ∀ x y, G x y → Agrees j k H (f x) (g y)) :
    Agrees j k H (a.bind f) (b.bind g) := by
  cases h with
  | goes h => exact next _ _ h
  | ends h => exact .ends h
  | overflows h => exact .overflows h

theorem map {f g : α → β} (h : Agrees j k G a b) (next : ∀ x y, G x y → H (f x) (g y)) :
    Agrees j k H (a.map f) (b.map g) := by
  cases h with
  | goes h => exact .goes (next _ _ h)
  | ends h => exact .ends h
  | overflows h => exact .overflows h

theorem conclude {a b : Act State} (h : Agrees j k (Onto j k) a b) :
    Together j k (Machine.conclude a) (Machine.conclude b) := by
  cases h with
  | goes h => exact h.elim .goes .ends
  | ends h => exact .ends h
  | overflows h => exact .overflows h

end Agrees

namespace Abreast

/-- What does not look at CFG, the sequencer or the completed blocks sees no difference. -/
theorem same {β : Type} (h : Abreast j k s t) (f : State → β) (blind : ∀ u, f u.shared = f u := by exact fun _ => rfl) :
    f t = f s := by
  rw [← blind t, h.shared, blind s]

/-- A change of what the two share, the same in both, with an output that only grows. -/
theorem update (h : Abreast j k s t) (f : State → State)
    (blind : ∀ u, (f u.shared).shared = (f u).shared := by exact fun _ => rfl)
    (seq : ∀ u, (f u).seq = u.seq := by exact fun _ => rfl)
    (status : ∀ u, (f u).status = u.status := by exact fun _ => rfl)
    (blocks : ∀ u, (f u).dec.blocks = u.dec.blocks := by exact fun _ => rfl)
    (grows : ∀ u, u.dec.out <+: (f u).dec.out := by exact fun _ => List.prefix_refl _) :
    Abreast j k (f s) (f t) where
  jobs := h.jobs
  shared := h.same (fun u => (f u).shared) blind
  seq := by rw [seq, seq]; exact h.seq
  clear := by rw [status]; exact h.clear
  blocks := by rw [blocks]; exact h.blocks.trans (grows s)
  blocks' := by rw [blocks]; exact h.blocks'.trans (grows t)

theorem raise (h : Abreast j k s t) {f : FaultCode} (info : Nat)
    (hf : k = .block → f ≠ .eOverflow := by exact fun _ => FaultCode.noConfusion) :
    SameEnd k (Machine.raise f info s) (Machine.raise f info t) where
  shared := h.same fun u => (Machine.raise f info u).shared
  idle := rfl
  idle' := rfl
  free hk := fun e => hf hk (Option.some.inj e)

/-! ### The sequencer -/

theorem goto (h : Abreast j k s t) (ph : Phase) : Abreast j k (s.goto ph) (t.goto ph) := by
  obtain ⟨_, hs, ht⟩ := h.seq
  rw [goto_of_decode hs, goto_of_decode ht]
  exact ⟨h.jobs, h.shared, ⟨ph, rfl, rfl⟩, h.clear, h.blocks, h.blocks'⟩

theorem streamState (h : Abreast j k s t) (x : SdecState) : Abreast j k (s.streamState x) (t.streamState x) := by
  obtain ⟨_, hs, ht⟩ := h.seq
  rwa [streamState_of_not_stream hs h.jobs.left, streamState_of_not_stream ht h.jobs.right]

theorem tryStart (h : Abreast j k s t) : Abreast j k (Machine.tryStart s) (Machine.tryStart t) := by
  obtain ⟨_, hs, ht⟩ := h.seq
  rwa [tryStart_of_not_stream hs h.jobs.left, tryStart_of_not_stream ht h.jobs.right]

theorem job (h : Abreast j k s t) : s.job = some j ∧ t.job = some k := by
  obtain ⟨_, hs, ht⟩ := h.seq
  exact ⟨job_of_decode hs, job_of_decode ht⟩

theorem not_stream (h : Abreast j k s t) : s.job ≠ some .stream ∧ t.job ≠ some .stream := by
  obtain ⟨jobS, jobT⟩ := h.job
  exact ⟨fun e => h.jobs.left (Option.some.inj (jobS.symm.trans e)),
    fun e => h.jobs.right (Option.some.inj (jobT.symm.trans e))⟩

theorem exhausted (h : Abreast j k s t) : SameEnd k (Machine.exhausted s) (Machine.exhausted t) := by
  obtain ⟨_, hs, ht⟩ := h.seq
  rw [exhausted_of_not_stream hs h.jobs.left, exhausted_of_not_stream ht h.jobs.right, h.same fun u => u.br.pos]
  exact h.raise _

/-! ### The reader -/

theorem readBits (h : Abreast j k s t) (n : Nat) :
    Agrees j k (SameRead j k) (Machine.readBits n s) (Machine.readBits n t) := by
  have loaded : t.br.refill t.inMem n n = s.br.refill s.inMem n n := h.same fun u => u.br.refill u.inMem n n
  have ready := h.update fun u => { u with br := s.br.refill s.inMem n n }
  unfold Machine.readBits
  dsimp only
  rw [loaded]
  split
  · exact .ends ready.exhausted
  · exact .goes ⟨rfl, ready.update fun u => { u with br := u.br.drop n }⟩

theorem consumeEntry (h : Abreast j k s t) (index maxLen cl sym : Nat) :
    Agrees j k (SameRead j k) (Machine.consumeEntry index maxLen cl sym s)
      (Machine.consumeEntry index maxLen cl sym t) := by
  unfold Machine.consumeEntry
  rw [h.same fun u => u.br.acclen]
  split
  · split
    · exact .ends h.exhausted
    · exact .ends (h.raise _)
  split
  · exact .ends h.exhausted
  · exact .goes ⟨rfl, h.update fun u => { u with br := u.br.drop cl }⟩

theorem readSymbol (h : Abreast j k s t) (tb : DecodeTable) :
    Agrees j k (SameRead j k) (Machine.readSymbol tb s) (Machine.readSymbol tb t) := by
  have loaded : t.br.refill t.inMem tb.maxLen tb.maxLen = s.br.refill s.inMem tb.maxLen tb.maxLen :=
    h.same fun u => u.br.refill u.inMem tb.maxLen tb.maxLen
  unfold Machine.readSymbol lookupEntry
  dsimp only
  rw [loaded]
  exact (h.update fun u => { u with br := s.br.refill s.inMem tb.maxLen tb.maxLen }).consumeEntry _ _ _ _

theorem readClLengths (h : Abreast j k s t) (order lens : List Nat) :
    Agrees j k (SameRead j k) (Machine.readClLengths order lens s) (Machine.readClLengths order lens t) := by
  induction order generalizing lens s t with
  | nil => exact .goes ⟨rfl, h⟩
  | cons sym order ih =>
    rw [readClLengths_cons, readClLengths_cons]
    refine (h.readBits 3).bind ?_
    rintro ⟨_, s⟩ ⟨v, t⟩ ⟨rfl, h⟩
    exact ih h _

/-! ### The output -/

/-- Under one strategy both meet the same ceiling, and DEC.BLOCK meets none. -/
theorem emit (h : Abreast j k s t) (b : Byte) : Agrees j k (Abreast j k) (Machine.emit b s) (Machine.emit b t) := by
  obtain ⟨jobS, jobT⟩ := h.job
  have more := h.update (fun u => u.withOut (u.dec.out ++ [b])) (grows := fun _ => List.prefix_append _ _)
  by_cases room : s.job = some .block ∨ s.params.maxOutputBytes ≠ some s.dec.op
  · have room' : t.job = some .block ∨ t.params.maxOutputBytes ≠ some t.dec.op := by
      refine room.imp (fun block => ?_) (h.same fun u => u.params.maxOutputBytes ≠ some u.dec.op).mpr
      rcases h.jobs.loose with rfl | rfl
      · exact jobT
      · exact jobT.trans (jobS.symm.trans block)
    rw [emit_room room, emit_room room']
    exact .goes more
  · obtain ⟨other, full⟩ := not_or.mp room
    rw [emit_full other (not_not.mp full)]
    rcases h.jobs.loose with rfl | rfl
    · exact .overflows ⟨fun e => other (jobS.trans (congrArg some e)), rfl, rfl⟩
    · have full' := (h.same fun u => u.params.maxOutputBytes = some u.dec.op).mpr (not_not.mp full)
      rw [emit_full (jobT.trans jobS.symm ▸ other) full', h.same fun u => u.dec.op]
      exact .ends (h.raise _ fun e => absurd (jobS.trans (congrArg some e)) other)

theorem copyMatch (h : Abreast j k s t) (distance n : Nat) :
    Agrees j k (Abreast j k) (Machine.copyMatch distance n s) (Machine.copyMatch distance n t) := by
  induction n generalizing s t with
  | zero => exact .goes h
  | succ n ih =>
    rw [copyMatch_succ, copyMatch_succ, h.same fun u => u.dec.out.getD (u.dec.op - distance) 0]
    exact (h.emit _).bind fun _ _ h => ih h

theorem flushBlocks (h : Abreast j k s t) : Abreast j k (Machine.flushBlocks s) (Machine.flushBlocks t) where
  jobs := h.jobs
  shared := (congrArg State.shared (flushBlocks_frame t)).trans
    (h.shared.trans (congrArg State.shared (flushBlocks_frame s)).symm)
  seq := by rw [flushBlocks_seq, flushBlocks_seq]; exact h.seq
  clear := by rw [flushBlocks_status]; exact h.clear
  blocks := flushBlocks_prefix h.blocks
  blocks' := flushBlocks_prefix h.blocks'

theorem endBlock (h : Abreast j k s t) : Onto j k (Machine.endBlock s) (Machine.endBlock t) := by
  obtain ⟨_, hs, ht⟩ := h.seq
  have last := h.same fun u => u.dec.bfinal
  cases hb : s.dec.bfinal with
  | false =>
    rw [endBlock_more hs hb, endBlock_more ht (last.trans hb), if_neg h.jobs.left, if_neg h.jobs.right]
    exact .inl ⟨h.jobs, h.shared, ⟨_, rfl, rfl⟩, h.clear, h.blocks, h.blocks'⟩
  | true =>
    rw [endBlock_decode hs h.jobs.left hb (.inl h.blocks),
      endBlock_decode ht h.jobs.right (last.trans hb) (.inl h.blocks')]
    refine .inr ⟨h.same fun u => (answerDone u.dec.out u).shared, rfl, rfl, fun _ => ?_⟩
    rw [answerDone_status, h.same fun u => u.status, h.clear]
    exact nofun

theorem copyStored (h : Abreast j k s t) (n : Nat) :
    Agrees j k (Abreast j k) (Machine.copyStored n s) (Machine.copyStored n t) := by
  induction n generalizing s t with
  | zero => exact .goes h
  | succ n ih =>
    rw [copyStored_whole h.not_stream.1, copyStored_whole h.not_stream.2]
    refine (h.flushBlocks.readBits 8).bind ?_
    rintro ⟨_, s⟩ ⟨v, t⟩ ⟨rfl, h⟩
    exact (h.emit _).bind fun _ _ h => ih (h.update fun u => { u with dec := { u.dec with blockLen := n } })

theorem storedBody (h : Abreast j k s t) : Agrees j k (Onto j k) (Machine.storedBody s) (Machine.storedBody t) := by
  obtain ⟨_, hs, ht⟩ := h.seq
  have shortage := h.same fun u => 8 * u.dec.blockLen > u.avail
  by_cases short : 8 * s.dec.blockLen > s.avail
  · rw [storedBody_truncated hs h.jobs.left short, storedBody_truncated ht h.jobs.right (shortage.mpr short),
      h.same fun u => u.br.pos]
    exact .ends (h.raise _)
  · unfold Machine.storedBody
    rw [if_neg fun c => short c.2, if_neg fun c => short (shortage.mp c.2), h.same fun u => u.dec.blockLen]
    exact (h.copyStored _).map fun _ _ h => h.endBlock

theorem takeLength (h : Abreast j k s t) (n : Nat) : Abreast j k (Machine.takeLength n s) (Machine.takeLength n t) :=
  (h.update fun u => { u with dec := { u.dec with matchLen := n } }).goto .dist

theorem takeDistance (h : Abreast j k s t) (distance : Nat) :
    Agrees j k (Onto j k) (Machine.takeDistance distance s) (Machine.takeDistance distance t) := by
  unfold Machine.takeDistance
  rw [h.same fun u => u.dec.op, h.same fun u => u.dec.matchLen]
  split
  · exact .ends (h.raise _)
  · exact (h.copyMatch _ _).map fun _ _ h => .inl (h.goto .litLen)

/-! ### Headers -/

theorem blockHeader (h : Abreast j k s t) (final : Bool) (ty : BType) :
    Abreast j k (Machine.blockHeader final ty s) (Machine.blockHeader final ty t) :=
  (h.update fun u => u.withHeader final ty).streamState .blockHeaderEnd

theorem buildHeaderTable (h : Abreast j k s t) (lengths : List Nat) :
    Agrees j k (SameRead j k) (Machine.buildHeaderTable lengths s) (Machine.buildHeaderTable lengths t) := by
  cases built : htbBuild lengths with
  | error sym =>
    rw [buildHeaderTable_full built, buildHeaderTable_full built]
    exact .ends (h.raise _)
  | ok x =>
    rw [buildHeaderTable_ok built, buildHeaderTable_ok built]
    exact .goes ⟨rfl, h.update fun u => u.tableBuilt x.1 x.2⟩

theorem finishHeader (h : Abreast j k s t) :
    Agrees j k (Onto j k) (Machine.finishHeader s) (Machine.finishHeader t) := by
  rw [finishHeader_eq, finishHeader_eq, h.same fun u => u.dec.hdr]
  refine (h.buildHeaderTable _).bind ?_
  rintro ⟨_, s⟩ ⟨ll, t⟩ ⟨rfl, h⟩
  dsimp only
  rw [h.same fun u => u.dec.hdr]
  refine (h.buildHeaderTable _).map ?_
  rintro ⟨_, s⟩ ⟨d, t⟩ ⟨rfl, h⟩
  have known := h.update fun u => { u with dec := { u.dec with ll := ll, d := d } }
  exact .inl ((known.streamState .decodeBlockStart).goto .litLen)

theorem headerTurn (h : Abreast j k s t) : Agrees j k (Onto j k) (Machine.headerTurn s) (Machine.headerTurn t) := by
  unfold Machine.headerTurn
  rw [h.same fun u => u.dec.hdr]
  split
  · exact .goes (.inl (h.goto .clSym))
  · exact h.finishHeader

theorem withLengths (h : Abreast j k s t) (new : List Nat) : Abreast j k (s.withLengths new) (t.withLengths new) :=
  h.update fun u => u.withLengths new

theorem appendLength (h : Abreast j k s t) (v : Nat) :
    Agrees j k (Onto j k) (Machine.appendLength v s) (Machine.appendLength v t) :=
  (h.withLengths [v]).headerTurn

theorem appendRepeat (h : Abreast j k s t) (rep v : Nat) :
    Agrees j k (Onto j k) (Machine.appendRepeat rep v s) (Machine.appendRepeat rep v t) := by
  unfold Machine.appendRepeat
  rw [h.same fun u => u.dec.hdr]
  split
  · exact .ends (h.raise _)
  · have more := (h.withLengths (List.replicate rep v)).headerTurn
    simp only [State.withLengths] at more
    rwa [h.same fun u => u.dec.hdr] at more

theorem dynamicHeader (h : Abreast j k s t) (hlit hdist hclen : Nat) :
    Agrees j k (Onto j k) (Machine.dynamicHeader hlit hdist hclen s) (Machine.dynamicHeader hlit hdist hclen t) := by
  by_cases legal : hlit ≤ 286 ∧ hdist ≤ 30
  · rw [dynamicHeader_eq legal.1 legal.2, dynamicHeader_eq legal.1 legal.2]
    refine (h.readClLengths _ _).bind ?_
    rintro ⟨_, s⟩ ⟨lens, t⟩ ⟨rfl, h⟩
    refine ((h.update fun u => { u with lenCL := .of lens }).buildHeaderTable lens).map ?_
    rintro ⟨_, s⟩ ⟨cl, t⟩ ⟨rfl, h⟩
    exact .inl ((h.update (State.headerBuilt hlit hdist cl)).goto .clSym)
  · unfold Machine.dynamicHeader
    split
    · exact .ends (h.raise _)
    split
    · exact .ends (h.raise _)
    · omega

/-! ### The elements -/

theorem execStoredHdr (h : Abreast j k s t) (len nlen : BitVec 16) :
    Together j k (Machine.execStoredHdr len nlen s) (Machine.execStoredHdr len nlen t) := by
  unfold Machine.execStoredHdr
  split
  · exact .ends (h.raise _)
  · exact ((h.update fun u => { u with dec := { u.dec with blockLen := len.toNat } }).streamState
      .decodeBlockStart).storedBody.conclude

theorem execCl16 (h : Abreast j k s t) (extra : BitVec 2) :
    Together j k (Machine.execCl16 extra s) (Machine.execCl16 extra t) := by
  unfold Machine.execCl16
  rw [h.same fun u => u.dec.hdr]
  split
  · exact .ends (h.raise _)
  · exact (h.appendRepeat _ _).conclude

theorem execElement (h : Abreast j k s t) (i : Instr) (token : (encode i).format ≠ .token)
    (entry : (encode i).format ≠ .dte) : Together j k (Machine.execElement i s) (Machine.execElement i t) := by
  cases i with
  | blockStored f => exact .goes (((h.blockHeader f .stored).streamState .blockBodyStart).goto .stored)
  | blockFixed f =>
    exact .goes ((((h.blockHeader f .fixed).update useFixedTables).streamState .decodeBlockStart).goto .litLen)
  | blockDynamic f => exact .goes (((h.blockHeader f .dynamic).streamState .blockBodyStart).goto .dynHdr)
  | blockReserved f =>
    dsimp only [Machine.execElement, execBlockReserved]
    rw [h.same fun u => u.br.pos]
    exact .ends ((h.blockHeader f .reserved).raise _)
  | storedHdr len nlen => exact h.execStoredHdr len nlen
  | dynHdr l d c => exact (h.dynamicHeader _ _ _).conclude
  | lit b => exact ((h.emit b).map fun _ _ h => .inl (h.goto .litLen)).conclude
  | eob => exact h.endBlock.elim .goes .ends
  | len257 | len258 | len259 | len260 | len261 | len262 | len263 | len264 | len285 => exact .goes (h.takeLength _)
  | len265 x | len266 x | len267 x | len268 x | len269 x | len270 x | len271 x | len272 x | len273 x | len274 x
  | len275 x | len276 x | len277 x | len278 x | len279 x | len280 x | len281 x | len282 x | len283 x | len284 x =>
    exact .goes (h.takeLength _)
  | llInvalid286 | llInvalid287 | distInvalid30 | distInvalid31 =>
    exact .ends (h.raise _)
  | dist0 | dist1 | dist2 | dist3 => exact (h.takeDistance _).conclude
  | dist4 x | dist5 x | dist6 x | dist7 x | dist8 x | dist9 x | dist10 x | dist11 x | dist12 x | dist13 x | dist14 x
  | dist15 x | dist16 x | dist17 x | dist18 x | dist19 x | dist20 x | dist21 x | dist22 x | dist23 x | dist24 x
  | dist25 x | dist26 x | dist27 x | dist28 x | dist29 x =>
    exact (h.takeDistance _).conclude
  | cl0 | cl1 | cl2 | cl3 | cl4 | cl5 | cl6 | cl7 | cl8 | cl9 | cl10 | cl11 | cl12 | cl13 | cl14 | cl15 =>
    exact (h.appendLength _).conclude
  | cl16 x => exact h.execCl16 x
  | cl17 x | cl18 x => exact (h.appendRepeat _ _).conclude
  | tLit | tEob | tMatch => exact absurd rfl token
  | dte => exact absurd rfl entry
  | _ => exact .goes h

theorem illegalElement (h : Abreast j k s t) (r : Raw) :
    SameEnd k (Machine.illegalElement r s) (Machine.illegalElement r t) := by
  unfold Machine.illegalElement
  split <;> exact h.raise _

/-! ### Fetching -/

theorem fetchSymbol (h : Abreast j k s t) (f : Format) (width : Nat) (tb : DecodeTable) (extra : Nat → Nat)
    (token : f ≠ .token := by decide) (entry : f ≠ .dte := by decide) :
    Agrees j k (SameFetch j k) (Machine.fetchSymbol f width tb extra s) (Machine.fetchSymbol f width tb extra t) := by
  rw [fetchSymbol_eq, fetchSymbol_eq]
  refine (h.readSymbol tb).bind ?_
  rintro ⟨_, s⟩ ⟨sym, t⟩ ⟨rfl, h⟩
  refine (h.readBits _).map ?_
  rintro ⟨_, s⟩ ⟨x, t⟩ ⟨rfl, h⟩
  exact ⟨rfl, token, entry, h⟩

theorem fetchFields (h : Abreast j k s t) (f : Format) (n m : Nat) (token : f ≠ .token := by decide)
    (entry : f ≠ .dte := by decide) :
    Agrees j k (SameFetch j k) (Machine.fetchFields f n m s) (Machine.fetchFields f n m t) := by
  rw [fetchFields_eq, fetchFields_eq]
  refine (h.readBits n).bind ?_
  rintro ⟨_, s⟩ ⟨a, t⟩ ⟨rfl, h⟩
  refine (h.readBits m).map ?_
  rintro ⟨_, s⟩ ⟨b, t⟩ ⟨rfl, h⟩
  exact ⟨rfl, token, entry, h⟩

theorem fetchCounts (h : Abreast j k s t) :
    Agrees j k (SameFetch j k) (Machine.fetchCounts s) (Machine.fetchCounts t) := by
  rw [fetchCounts_eq, fetchCounts_eq]
  refine (h.fetchFields .dynHdr 5 5).bind ?_
  rintro ⟨_, s⟩ ⟨r, t⟩ ⟨rfl, token, entry, h⟩
  refine (h.readBits 4).map ?_
  rintro ⟨_, s⟩ ⟨c, t⟩ ⟨rfl, h⟩
  exact ⟨rfl, token, entry, h⟩

theorem fetchDistance (h : Abreast j k s t) :
    Agrees j k (SameFetch j k) (Machine.fetchDistance s) (Machine.fetchDistance t) := by
  have loaded : t.br.refill t.inMem s.dec.d.maxLen s.dec.d.maxLen = s.br.refill s.inMem s.dec.d.maxLen s.dec.d.maxLen :=
    h.same fun u => u.br.refill u.inMem s.dec.d.maxLen s.dec.d.maxLen
  unfold Machine.fetchDistance lookupEntry
  dsimp only
  rw [h.same fun u => u.dec.d, h.same fun u => u.dec.btype, loaded]
  split
  · exact .goes ⟨rfl, nofun, nofun,
      h.update fun u => { u with br := s.br.refill s.inMem s.dec.d.maxLen s.dec.d.maxLen }⟩
  · exact h.fetchSymbol .dist ..

theorem fetchElement (h : Abreast j k s t) :
    Agrees j k (SameFetch j k) (Machine.fetchElement s) (Machine.fetchElement t) := by
  obtain ⟨ph, hs, ht⟩ := h.seq
  unfold Machine.fetchElement
  rw [hs, ht]
  cases ph with
  | blkHdr => exact (h.streamState .blockHeaderStart).tryStart.fetchFields .blkHdr 1 2
  | stored =>
    exact (h.tryStart.update fun u => { u with br := u.br.align }).fetchFields .stored 16 16
  | dynHdr => exact h.tryStart.fetchCounts
  | clSym =>
    dsimp only
    rw [h.same fun u => u.dec.cl, h.same fun u => u.dec.hdr]
    exact h.fetchSymbol .clSym ..
  | litLen =>
    have ready := h.flushBlocks.tryStart
    dsimp only
    rw [ready.same fun u => u.dec.ll]
    exact ready.fetchSymbol .litLen ..
  | dist => exact h.fetchDistance

/-! ### Turns -/

theorem turn (h : Abreast j k s t) : Together j k (Machine.turn s) (Machine.turn t) := by
  have fetched := h.fetchElement
  unfold Machine.turn
  generalize Machine.fetchElement s = a, Machine.fetchElement t = b at fetched
  cases fetched with
  | @goes x y found =>
    obtain ⟨r, s⟩ := x
    obtain ⟨_, t⟩ := y
    obtain ⟨rfl, token, entry, h⟩ := found
    dsimp only
    split
    next hi => exact h.execElement _ (decode_format hi ▸ token) (decode_format hi ▸ entry)
    next => exact .ends (h.illegalElement _)
  | ends ended => exact .ends ended
  | overflows full => exact .overflows full

theorem runTurns (h : Abreast j k s t) (fuel : Nat) :
    Together j k (Machine.runTurns fuel s) (Machine.runTurns fuel t) := by
  induction fuel generalizing s t with
  | zero => exact .goes h
  | succ fuel ih =>
    obtain ⟨_, hs, ht⟩ := h.seq
    have turned := h.turn
    rw [Machine.runTurns, Machine.runTurns, hs, ht]
    dsimp only
    generalize Machine.turn s = o, Machine.turn t = o' at turned
    cases turned with
    | goes h => exact ih h
    | ends ended =>
      dsimp only
      rw [runTurns_of_idle ended.idle, runTurns_of_idle ended.idle']
      exact .ends ended
    | overflows full =>
      dsimp only
      rw [runTurns_of_idle full.idle]
      exact .overflows full

theorem settle (h : Abreast j k s t) : Together j k (Machine.settle s) (Machine.settle t) := by
  unfold Machine.settle
  rw [h.same fun u => u.grain, h.same fun u => turnBound u]
  split
  · exact h.runTurns _
  · exact .goes h

end Abreast

/-! ## The two commands -/

/-- What is left of two steps that run together. -/
theorem Together.next (h : Together j k (.next s) (.next t)) :
    (j ≠ k ∧ s.status.fault = some .eOverflow) ∨
      (t.shared = s.shared ∧ (k = .block → t.status.fault ≠ some .eOverflow)) := by
  cases h with
  | goes h =>
    have clear : t.status.fault = none := (h.same fun u => u.status.fault).trans h.clear
    exact .inr ⟨h.shared, fun _ => by rw [clear]; exact nofun⟩
  | ends h => exact .inr ⟨h.shared, h.free⟩
  | overflows h => exact .inl ⟨h.jobs, h.fault⟩

/-- A job begun on two states that differ in CFG alone, its start offset aside. -/
theorem exec_together {i i' : Instr} (hi : Begins j i) (hi' : Begins k i') (loose : k = .block ∨ k = j)
    (hf : s.status.fault = none) {c : Cfg} (offset : c.startOffset = s.cfg.startOffset) :
    Together j k (exec i s) (exec i' { s with cfg := c }) := by
  rcases Nat.lt_or_ge s.inMem.length s.cfg.startOffset with beyond | inside
  · rw [exec_of_gt hi hf beyond, exec_of_gt (s := { s with cfg := c }) hi' hf (offset ▸ beyond)]
    exact .ends ⟨by rw [offset]; rfl, rfl, rfl, fun _ => nofun⟩
  · rw [exec_of_le hi hf inside, exec_of_le (s := { s with cfg := c }) hi' hf (offset ▸ inside)]
    have same : State.shared (State.begun k { s with cfg := c }) = (s.begun j).shared := by
      simp only [State.begun, offset]
      rfl
    exact Abreast.settle
      ⟨⟨hi.not_stream, hi'.not_stream, loose⟩, same, ⟨_, rfl, rfl⟩, hf, List.nil_prefix, List.nil_prefix⟩

end

theorem results_of_shared {s t : State} (h : t.shared = s.shared) :
    t.result = s.result ∧ t.status = s.status ∧ t.br = s.br ∧ t.dec.out = s.dec.out :=
  ⟨(congrArg State.result h :), (congrArg State.status h :), (congrArg State.br h :),
    (congrArg (fun u => u.dec.out) h :)⟩

/-- Settles O53: DEC.BLOCK runs abreast of itself, of DEC.ADAPTIVE, and either command of itself under another CFG. -/
theorem bufferStrategiesAgree : Obligations.BufferStrategiesAgree := by
  intro s t u _ hf ht hu
  have block : Begins .block .decBlock := .inl ⟨rfl, rfl⟩
  have adaptive : Begins .adaptive .decAdaptive := .inr ⟨rfl, rfl⟩
  refine ⟨?_, fun below => ?_, fun size growth i v w hi hv hw => ?_⟩
  · have twice := exec_together block block (.inl rfl) hf (c := s.cfg) rfl
    rw [ht] at twice
    exact (twice.next.resolve_left fun full => full.1 rfl).2 rfl
  · have both := exec_together adaptive block (.inl rfl) hf (c := s.cfg) rfl
    rw [ht, hu] at both
    exact (results_of_shared (both.next.resolve_left fun full => below full.2).1).imp_right (.imp_right fun e _ => e)
  · obtain ⟨job, begins⟩ : ∃ job, Begins job i := by
      rcases hi with rfl | rfl
      · exact ⟨_, block⟩
      · exact ⟨_, adaptive⟩
    have both := exec_together begins begins (.inr rfl) hf
      (c := { s.cfg with bufferSize := size, growth := growth }) rfl
    rw [hv, hw] at both
    exact (results_of_shared (both.next.resolve_left fun full => full.1 rfl).1).imp_right (.imp_right fun e _ => e)

end Sys2Proof.Machine
end

section
/-! PROOFS. SDEC.INIT (R300), and the chunks of a stream (R309): a table of HTB.BUILD on an array longer than the 16
bits an entry has for its symbol (R126) can give a symbol less than its code, and then where the input is cut tells. -/

namespace Sys2Proof.Machine

/-! ## SDEC.INIT -/

/-- Settles O54: the registers of R300 are written in the frame of every command. -/
theorem sdecInitBeginsAStream : Obligations.SdecInitBeginsAStream := by
  have reset : State.reset.FreshStream :=
    ⟨rfl, rfl, rfl, rfl, ⟨rfl, rfl⟩, ⟨rfl, rfl, rfl, rfl⟩, ⟨rfl, rfl, rfl, rfl⟩⟩
  refine ⟨rfl, reset, fun s f hf => exec_refused hf rfl nofun nofun, fun s hf => ?_⟩
  rw [exec, execSdecInit, framed_runs hf]
  exact ⟨_, rfl, ⟨rfl, hf, rfl, rfl, ⟨rfl, rfl⟩, ⟨rfl, rfl, rfl, rfl⟩, ⟨rfl, rfl, rfl, rfl⟩⟩, rfl⟩

/-! ## Unused symbols before those with a code (R162) -/

theorem placeSymbols_zeros {bl : Nat} (pos : 0 < bl) (n i : Nat) (lens : List Nat) (b : Build) :
    placeSymbols bl i (List.replicate n 0 ++ lens) b = placeSymbols bl (i + n) lens b := by
  induction n generalizing i with
  | zero => rfl
  | succ n ih =>
    rw [List.replicate_succ, List.cons_append, placeSymbols_other pos.ne, ih, Nat.add_assoc, Nat.add_comm 1]

theorem foldl_zeros {f : Nat → Nat → Nat} (hf : f 0 0 = 0) (n : Nat) (lens : List Nat) :
    (List.replicate n 0 ++ lens).foldl f 0 = lens.foldl f 0 := by
  induction n with
  | zero => rfl
  | succ n ih => rw [List.replicate_succ, List.cons_append, List.foldl_cons, hf, ih]

/-- The symbols `n` to `n + 3` have codes of two bits, those before them none. -/
def fourFrom (n : Nat) : List Nat := List.replicate n 0 ++ [2, 2, 2, 2]

theorem lengthsOk_fourFrom (n : Nat) : lengthsOk (fourFrom n) = true := by
  have codes : ∀ l ∈ [2, 2, 2, 2], l ≤ 15 := by decide
  refine lengthsOk_iff.mpr fun l hl => (List.mem_append.mp hl).elim (fun unused => ?_) (codes l)
  rw [List.eq_of_mem_replicate unused]
  exact Nat.zero_le 15

theorem maxLen_fourFrom (n : Nat) : maxLen (fourFrom n) = 2 := foldl_zeros (f := max) rfl n [2, 2, 2, 2]

theorem minLen_fourFrom (n : Nat) : minLen (fourFrom n) = 2 := foldl_zeros (f := shorter) rfl n [2, 2, 2, 2]

theorem htbBuild_fourFrom (n : Nat) :
    htbBuild (fourFrom n) = .ok
      ({ table := [mkEntry 2 n, mkEntry 2 (n + 2), mkEntry 2 (n + 1), mkEntry 2 (n + 3)]
         maxLen := 2, minLen := 2 }, 8) := by
  rw [htbBuild, maxLen_fourFrom, minLen_fourFrom, fourFrom]
  simp [placeLengths, placeSymbols_zeros, placeSymbols, fillSlots, revBits, List.replicate_succ]

/-! ## A stream that its chunks change -/

/-- Four literals with codes of two bits, of which each entry gives only one as its length. -/
def shortTable : DecodeTable := { table := [0x10000, 0x10002, 0x10001, 0x10003], maxLen := 2, minLen := 2 }

/-- From symbol 0xFFFF0000 on, the symbol's upper half runs over into the entry's length (R126). -/
theorem shortTable_built : BuiltTable shortTable := by
  obtain ⟨n, zero, two, one, three⟩ : ∃ n, mkEntry 2 n = 0x10000 ∧ mkEntry 2 (n + 2) = 0x10002 ∧
      mkEntry 2 (n + 1) = 0x10001 ∧ mkEntry 2 (n + 3) = 0x10003 := ⟨0xFFFF0000, by decide⟩
  refine ⟨fourFrom n, 8, lengthsOk_fourFrom n, ?_⟩
  rw [htbBuild_fourFrom, zero, one, two, three, shortTable]

/-- A stream that waits for the tokens of a dynamic block with this table. -/
def shortStream : State :=
  { State.reset with
    status := { State.reset.status with needInput := true }
    sdec := { state := .decodeBlockStart, sp := 0, started := true }
    dec := { State.reset.dec with btype := .dynamic, ll := shortTable, d := shortTable } }

theorem shortStream_waiting : shortStream.Waiting where
  idle := rfl
  fault := rfl
  done := rfl
  needInput := rfl
  started := rfl
  state := .inr (.inr rfl)
  delivered := rfl
  reading := ⟨rfl, le_rfl, fun _ => nofun, le_rfl, le_rfl, Nat.zero_le _, rfl⟩
  input := ⟨[], rfl, rfl⟩
  tables := fun _ _ => ⟨shortTable_built, shortTable_built⟩

/-- The first chunk's last bit is a whole code only while the bit after it is missing and read as 0 (R149). -/
theorem feed_shortStream :
    (feed [[0x00], [0x01]] shortStream).map Prod.fst = some [0, 0, 0, 0, 0, 0, 0, 0, 2, 0, 0, 0, 0, 0, 0, 0] := by
  decide +kernel

/-- Where the bit after it is there, the eighth code is read with it. -/
theorem feed_shortStream_whole :
    (feed [[0x00, 0x01]] shortStream).map (fun x => (x.1, x.2.status.fault)) =
      some ([0, 0, 0, 0, 0, 0, 0, 1, 2, 0, 0, 0, 0, 0, 0, 0], none) := by
  decide +kernel

/-- A stream of one chunk is one call. -/
theorem exec_of_feed {c : List Byte} {s t : State} {bs : List Byte} (h : feed [c] s = some (bs, t)) :
    exec (.sdecCall (some c) none) s = .next t ∧ t.result = .bytes bs := by
  rw [feed] at h
  split at h
  next u called =>
    split at h
    next result =>
      simp only [feed, Option.map_some, List.append_nil, Option.some.injEq, Prod.mk.injEq] at h
      obtain ⟨rfl, rfl⟩ := h
      exact ⟨called, result⟩
    next => cases h
  next => cases h

/-- Refutes O59: `BuiltTable` sets no bound to the symbols, so a stream may wait with `shortTable`; its eighth code is
then literal 0 at the end of the chunk 0x00, but literal 1 where 0x01 follows in the same chunk. -/
theorem not_chunkingDoesNotChangeTheStream : ¬ Obligations.ChunkingDoesNotChangeTheStream := by
  intro h
  obtain ⟨⟨whole, u⟩, fed, observed⟩ := Option.map_eq_some_iff.mp feed_shortStream_whole
  obtain ⟨rfl, faultless⟩ := Prod.mk.inj observed
  obtain ⟨called, result⟩ := exec_of_feed fed
  obtain ⟨bs, t, fed, same, -⟩ := h shortStream u [[0x00], [0x01]] (.inr shortStream_waiting) rfl
    (List.cons_ne_nil _ _) called faultless
  have chunked := feed_shortStream
  rw [fed] at chunked
  cases chunked
  have bytes := Result.bytes.inj (result.symm.trans same)
  revert bytes
  decide

end Sys2Proof.Machine
end

section
/-! PROOFS. What a streaming call reads (R304, R338). An operation of the reader finds the same in two states that agree
in IN and in the reader; where the input runs out it suspends the call, and nothing remains of what it has read. -/

namespace Sys2Proof.Machine

/-! ## Suspending -/

theorem exhausted_of_stream {s : State} {ph : Phase} (h : s.seq = .decode .stream ph) : exhausted s = suspend s := by
  rw [exhausted, h]

theorem Reader.refill_back (m : Memory) (n fuel : Nat) (r : Reader) : (r.refill m n fuel).back = r.back := by
  obtain ⟨length, save, saved⟩ := r.refill_frame m n fuel
  simp only [Reader.back, length, save, saved]

/-- Suspending looks at the saved cursor, not at the one that stands. -/
theorem suspend_of_back {s : State} {r : Reader} (h : r.back = s.br.back) : suspend { s with br := r } = suspend s := by
  simp only [suspend, h]

/-! ## Two states that read alike -/

/-- The streaming decoder runs in both states, on the same input and from the same cursor. -/
structure Alike (s s' : State) : Prop where
  left  : ∃ ph, s.seq = .decode .stream ph
  right : ∃ ph, s'.seq = .decode .stream ph
  inMem : s'.inMem = s.inMem
  br    : s'.br = s.br

/-- Reading in the two states: the same value, the cursor alone moved; or both calls are suspended; or the bits make no
code. -/
inductive Scan {α : Type} (Q : α → Prop) (s s' : State) : Act (α × State) → Act (α × State) → Prop
  | reads {x : α} {r : Reader} (value : Q x) (back : r.back = s.br.back) :
    Scan Q s s' (.ok (x, { s with br := r })) (.ok (x, { s' with br := r }))
  | waits : Scan Q s s' (.error (suspend s)) (.error (suspend s'))
  | faults (index : Nat) (t : State) (b : Act (α × State)) : Scan Q s s' (.error (raise .eCode index t)) b

section
variable {s s' : State}

namespace Scan
variable {α β : Type} {Q : α → Prop} {P : β → Prop} {a b : Act (α × State)}

/-- Reading from states whose cursors alone have moved. -/
theorem moved {r : Reader} (h : Scan Q { s with br := r } { s' with br := r } a b) (back : r.back = s.br.back)
    (br : s'.br = s.br) : Scan Q s s' a b := by
  cases h with
  | reads value back' => exact .reads value (back'.trans back)
  | waits => rw [suspend_of_back back, suspend_of_back (back.trans (br ▸ rfl))]; exact .waits
  | faults index t => exact .faults index t _

theorem bind {f g : α × State → Act (β × State)} (h : Scan Q s s' a b) (br : s'.br = s.br)
    (next : ∀ x r, Q x →
      Scan P { s with br := r } { s' with br := r } (f (x, { s with br := r })) (g (x, { s' with br := r }))) :
    Scan P s s' (a.bind f) (b.bind g) := by
  cases h with
  | reads value back => exact (next _ _ value).moved back br
  | waits => exact .waits
  | faults index t => exact .faults index t _

theorem map {f : α → β} (h : Scan Q s s' a b) (hf : ∀ x, Q x → P (f x)) :
    Scan P s s' (a.map fun x => (f x.1, x.2)) (b.map fun x => (f x.1, x.2)) := by
  cases h with
  | reads value back => exact .reads (hf _ value) back
  | waits => exact .waits
  | faults index t => exact .faults index t _

/-- What is read in the one state is read in the other. -/
theorem follows {x : α} {r : Reader} (h : Scan Q s s' (.ok (x, { s with br := r })) b) :
    b = .ok (x, { s' with br := r }) := by
  generalize e : (Except.ok (x, { s with br := r }) : Act (α × State)) = a at h
  cases h with
  | reads value back =>
    obtain ⟨rfl, states⟩ := Prod.mk.inj (Except.ok.inj e)
    have readers : r = _ := (congrArg State.br states :)
    rw [readers]
  | waits => cases e
  | faults => cases e

end Scan

namespace Alike

theorem withReader (h : Alike s s') (r : Reader) : Alike { s with br := r } { s' with br := r } :=
  ⟨h.left, h.right, h.inMem, rfl⟩

/-- Either call is suspended where the input runs out. -/
theorem exhausted {α : Type} {Q : α → Prop} (h : Alike s s') :
    Scan Q s s' (.error (Machine.exhausted s)) (.error (Machine.exhausted s')) := by
  obtain ⟨⟨_, left⟩, ⟨_, right⟩, -⟩ := h
  rw [exhausted_of_stream left, exhausted_of_stream right]
  exact .waits

theorem readBits (h : Alike s s') (n : Nat) :
    Scan (fun _ => True) s s' (Machine.readBits n s) (Machine.readBits n s') := by
  have loaded : s'.br.refill s'.inMem n n = s.br.refill s.inMem n n := by rw [h.inMem, h.br]
  have back := s.br.refill_back s.inMem n n
  have ready := h.withReader (s.br.refill s.inMem n n)
  unfold Machine.readBits
  dsimp only
  rw [loaded]
  split
  · exact ready.exhausted.moved back h.br
  · exact .reads (by trivial) back

theorem consumeEntry (h : Alike s s') (index maxLen cl sym : Nat) :
    Scan (fun _ => True) s s' (Machine.consumeEntry index maxLen cl sym s)
      (Machine.consumeEntry index maxLen cl sym s') := by
  have dropped : s'.br.drop cl = s.br.drop cl := by rw [h.br]
  unfold Machine.consumeEntry
  rw [dropped, h.br]
  split
  · split
    · exact h.exhausted
    · exact .faults _ _ _
  split
  · exact h.exhausted
  · exact .reads (by trivial) rfl

theorem readSymbol (h : Alike s s') (t : DecodeTable) :
    Scan (fun _ => True) s s' (Machine.readSymbol t s) (Machine.readSymbol t s') := by
  have loaded : s'.br.refill s'.inMem t.maxLen t.maxLen = s.br.refill s.inMem t.maxLen t.maxLen := by rw [h.inMem, h.br]
  unfold Machine.readSymbol lookupEntry
  dsimp only
  rw [loaded]
  exact ((h.withReader _).consumeEntry ..).moved (s.br.refill_back ..) h.br

theorem fetchFields (h : Alike s s') (f : Format) (n m : Nat) :
    Scan (fun r : Raw => r.format = f) s s' (Machine.fetchFields f n m s) (Machine.fetchFields f n m s') := by
  rw [fetchFields_eq, fetchFields_eq]
  exact (h.readBits n).bind h.br fun x r _ => ((h.withReader r).readBits m).map
    (f := fun y => ({ format := f, word := x + 2 ^ n * y } : Raw)) fun _ _ => rfl

theorem fetchCounts (h : Alike s s') :
    Scan (fun r : Raw => r.format = .dynHdr) s s' (Machine.fetchCounts s) (Machine.fetchCounts s') := by
  rw [fetchCounts_eq, fetchCounts_eq]
  exact (h.fetchFields .dynHdr 5 5).bind h.br fun x r hx => ((h.withReader r).readBits 4).map
    (f := fun y => { x with word := x.word + 2 ^ 10 * y }) fun _ _ => hx

theorem fetchSymbol (h : Alike s s') (f : Format) (width : Nat) (t : DecodeTable) (extra : Nat → Nat) :
    Scan (fun r : Raw => r.format = f) s s' (Machine.fetchSymbol f width t extra s)
      (Machine.fetchSymbol f width t extra s') := by
  rw [fetchSymbol_eq, fetchSymbol_eq]
  exact (h.readSymbol t).bind h.br fun x r _ => ((h.withReader r).readBits (extra x)).map
    (f := fun y => ({ format := f, word := x + 2 ^ width * y } : Raw)) fun _ _ => rfl

theorem fetchDistance (h : Alike s s') (d : s'.dec.d = s.dec.d) (btype : s'.dec.btype = s.dec.btype) :
    Scan (fun r : Raw => r.format = .dist) s s' (Machine.fetchDistance s) (Machine.fetchDistance s') := by
  have other := h.fetchSymbol .dist 5 s.dec.d distSymbolExtra
  have loaded : s'.br.refill s'.inMem s.dec.d.maxLen s.dec.d.maxLen =
      s.br.refill s.inMem s.dec.d.maxLen s.dec.d.maxLen := by
    rw [h.inMem, h.br]
  unfold Machine.fetchDistance lookupEntry
  dsimp only
  rw [d, btype, loaded]
  split
  · exact .reads (by exact rfl) (s.br.refill_back ..)
  · exact other

theorem readClLengths (h : Alike s s') (order lens : List Nat) :
    Scan (fun _ => True) s s' (Machine.readClLengths order lens s) (Machine.readClLengths order lens s') := by
  induction order generalizing lens s s' with
  | nil =>
    have same : s' = { s' with br := s.br } := by rw [← h.br]
    rw [same]
    exact .reads (r := s.br) (by trivial) rfl
  | cons sym order ih =>
    rw [readClLengths_cons, readClLengths_cons]
    exact (h.readBits 3).bind h.br fun _ r _ => ih (h.withReader r) _

end Alike

end
end Sys2Proof.Machine
end

section
/-! PROOFS. Streaming calls (R302 to R313). A call ends when the stream does, when its input runs out, or in a fault,
which is never E_TRUNCATED; where it is suspended, a repetition without input takes the same try again and ends as it
is. -/

namespace Sys2Proof.Machine

/-! ## Tries (R304) -/

/-- The phase with which the try of a phase begins. -/
def Phase.first : Phase → Phase
  | .clSym => .dynHdr
  | .dist => .litLen
  | ph => ph

/-- The format of a phase's elements. -/
def Phase.format : Phase → Format
  | .blkHdr => .blkHdr
  | .stored => .stored
  | .dynHdr => .dynHdr
  | .clSym => .clSym
  | .litLen => .litLen
  | .dist => .dist

/-- The state in which a phase's element is read: with the first element a try begins. -/
def State.tried : Phase → State → State
  | .blkHdr, s => { s with br := s.br.keep, sdec := { s.sdec with state := .blockHeaderStart } }
  | .clSym, s => s
  | .dist, s => s
  | _, s => { s with br := s.br.keep }

/-- What is read there. -/
def fetchAt : Phase → State → Act (Raw × State)
  | .blkHdr, s => fetchFields .blkHdr 1 2 s
  | .stored, s => fetchFields .stored 16 16 { s with br := s.br.align }
  | .dynHdr, s => fetchCounts s
  | .clSym, s => fetchSymbol .clSym 5 s.dec.cl (fun sym => clSymbolExtra sym s.dec.hdr.lens) s
  | .litLen, s => fetchSymbol .litLen 9 s.dec.ll litLenExtra s
  | .dist, s => fetchDistance s

theorem fetchElement_of_stream {s : State} {ph : Phase} (h : s.seq = .decode .stream ph) :
    fetchElement s = fetchAt ph (s.tried ph) := by
  cases ph <;> simp [fetchElement, h, fetchAt, State.tried, tryStart, streamState_of_decode h,
    flushBlocks_of_not_block h Job.noConfusion]

/-- The tables and lengths by which a phase's element is read. -/
structure SameTables (ph : Phase) (s s' : State) : Prop where
  ll    : s'.dec.ll = s.dec.ll
  d     : s'.dec.d = s.dec.d
  btype : s'.dec.btype = s.dec.btype
  cl    : ph = .clSym → s'.dec.cl = s.dec.cl ∧ s'.dec.hdr = s.dec.hdr

theorem Alike.fetchAt {s s' : State} (h : Alike s s') {ph : Phase} (tables : SameTables ph s s') :
    Scan (fun r : Raw => r.format = ph.format) s s' (Machine.fetchAt ph s) (Machine.fetchAt ph s') := by
  cases ph with
  | blkHdr => exact h.fetchFields .blkHdr 1 2
  | stored =>
    have aligned : s'.br.align = s.br.align := by rw [h.br]
    dsimp only [Machine.fetchAt]
    rw [aligned]
    exact ((h.withReader _).fetchFields .stored 16 16).moved rfl h.br
  | dynHdr => exact h.fetchCounts
  | clSym =>
    obtain ⟨cl, hdr⟩ := tables.cl rfl
    dsimp only [Machine.fetchAt]
    rw [cl, hdr]
    exact h.fetchSymbol .clSym ..
  | litLen =>
    dsimp only [Machine.fetchAt]
    rw [tables.ll]
    exact h.fetchSymbol .litLen ..
  | dist => exact h.fetchDistance tables.d tables.btype

/-- Where a suspended call takes up a try again: the cursor stands where the try began, everything is delivered, and the
step's locals are gone. -/
def State.rewound (ph : Phase) (s : State) : State :=
  { s with
    br := s.br.back, sdec := { s.sdec with sp := s.dec.op }, seq := .decode .stream ph.first
    dec := { s.dec with hdr := { hlit := 0, hdist := 0, lens := [] }, matchLen := 0 } }

/-- The state that the repeated try then reaches: but for what is delivered and for locals of no use, it is that in
which the first try was suspended. -/
def State.replayed (ph : Phase) (s : State) : State :=
  { s with
    sdec := { s.sdec with sp := s.dec.op }, seq := .decode .stream ph
    dec := { s.dec with
             hdr := if ph = .clSym then s.dec.hdr else { hlit := 0, hdist := 0, lens := [] }
             matchLen := if ph = .dist then s.dec.matchLen else 0 } }

/-- The turns of the repeated try lead there. -/
def Retries (ph : Phase) (s : State) : Prop := Relation.ReflTransGen Turns (s.rewound ph) (s.replayed ph)

theorem suspend_replayed (ph : Phase) (s : State) :
    suspend (s.replayed ph) = { suspend s with result := .bytes [] } := by
  simp only [suspend, needInput, deliver, State.replayed, Dec.op, List.drop_length]

theorem tried_replayed (ph : Phase) (s : State) : ((s.tried ph).replayed ph).tried ph = (s.tried ph).replayed ph := by
  cases ph <;> rfl

/-- The first element of a try, read again, is read at once. -/
theorem retries_first {ph : Phase} (h : ph.first = ph) (s : State) : Retries ph (s.tried ph) := by
  cases ph with
  | clSym | dist => cases h
  | _ => exact .refl

/-! ## During a call -/

/-- What the turns of a call leave as it is, O aside, which only grows. -/
def State.callView (s : State) : Status × Result × Nat × Bool × Grain × Memory × Bool × Nat :=
  (s.status, s.result, s.sdec.sp, s.sdec.started, s.grain, s.inMem, s.inKept, s.br.inputLength)

/-- A call has begun: no flag and no result stands. -/
structure State.Begun (s : State) : Prop where
  status  : ∃ info, s.status = { fault := none, faultInfo := info, done := false, needInput := false }
  result  : s.result = .none
  started : s.sdec.started = true
  grain   : s.grain = .command

/-- The call that began in `s0` has come to `s`. -/
structure InCall (s0 s : State) : Prop where
  begun : s0.Begun
  view  : s.callView = s0.callView
  grows : s0.dec.out <+: s.dec.out

/-- SDEC.state and the block's type, before each phase's element (R305). -/
def InPlace (ph : Phase) (s : State) : Prop :=
  match ph with
  | .blkHdr => s.sdec.state = .blockHeaderStart
  | .stored => s.sdec.state = .blockBodyStart ∧ s.dec.btype = .stored
  | .dynHdr | .clSym => s.sdec.state = .blockBodyStart ∧ s.dec.btype = .dynamic
  | .litLen | .dist => s.sdec.state = .decodeBlockStart ∧ s.dec.btype ≠ .stored

/-- The call goes on before an element of this phase, and would take its try again. -/
structure Streams (s0 : State) (ph : Phase) (s : State) : Prop where
  call    : InCall s0 s
  seq     : s.seq = .decode .stream ph
  place   : InPlace ph (s.tried ph)
  retries : Retries ph (s.tried ph)

/-! ## The end of a call -/

/-- A call without input leaves the state as it is, with an empty result (R313). -/
def Repeats (t : State) : Prop := ∀ off, exec (.sdecCall none off) t = .next { t with result := .bytes [] }

/-- IN holds all the bytes the reader was given. -/
structure State.Supplied (s : State) : Prop where
  kept  : s.InputKept
  bytes : ∀ a < s.br.inputLength, (s.inMem.read a).isSome = true

/-- The stream is over (R303, R310). -/
structure Over (t : State) : Prop where
  done      : t.status.done = true
  needInput : t.status.needInput = false
  state     : t.sdec.state = .decodeBlockEnd
  bfinal    : t.dec.bfinal = true

/-- The call waits for input, in a state that R307 names. -/
structure Waits (s0 t : State) : Prop where
  done      : t.status.done = false
  needInput : t.status.needInput = true
  state     : t.sdec.state = .blockHeaderStart ∨ t.sdec.state = .blockBodyStart ∨ t.sdec.state = .decodeBlockStart
  repeats   : s0.Supplied → Repeats t

/-- The call that began in `s0` has delivered what is new in O. -/
structure Delivers (s0 t : State) : Prop where
  idle   : t.seq = .idle
  fault  : t.status.fault = none
  grows  : s0.dec.out <+: t.dec.out
  result : t.result = .bytes (t.dec.out.drop s0.sdec.sp)
  sp     : t.sdec.sp = t.dec.out.length
  ends   : Over t ∨ Waits s0 t

/-- The call that began in `s0` has ended: it has delivered, or taken a fault that is not E_TRUNCATED (R338). -/
def Ends (s0 t : State) : Prop := Delivers s0 t ∨ ∃ f info u, t = raise f info u ∧ f ≠ .eTruncated

/-- The call has ended or goes on. -/
def GoesOn (s0 t : State) : Prop := Ends s0 t ∨ ∃ ph, Streams s0 ph t

theorem busy_of_decode {s : State} {j : Job} {ph : Phase} (h : s.seq = .decode j ph) : s.seq ≠ .idle := by
  rw [h]; exact Seq.noConfusion

theorem Ends.raise {s0 : State} {f : FaultCode} (hf : f ≠ .eTruncated) (info : Nat) (s : State) :
    Ends s0 (raise f info s) := .inr ⟨f, info, s, rfl, hf⟩

theorem GoesOn.raise {s0 : State} {f : FaultCode} (hf : f ≠ .eTruncated) (info : Nat) (s : State) :
    GoesOn s0 (raise f info s) := .inl (.raise hf info s)

section
variable {s0 s t : State} {ph : Phase}

theorem InCall.step (h : InCall s0 s) (view : t.callView = s.callView) (grows : s.dec.out <+: t.dec.out) :
    InCall s0 t :=
  ⟨h.begun, view.trans h.view, h.grows.trans grows⟩

/-- The cursor alone has moved. -/
theorem InCall.moved (h : InCall s0 s) {r : Reader} (back : r.back = s.br.back) : InCall s0 { s with br := r } := by
  have length : r.inputLength = s.br.inputLength := (congrArg Reader.inputLength back :)
  exact h.step (by simp only [State.callView, length]) (List.prefix_refl _)

theorem InCall.status (h : InCall s0 s) :
    ∃ info, s.status = { fault := none, faultInfo := info, done := false, needInput := false } := by
  obtain ⟨info, e⟩ := h.begun.status
  exact ⟨info, (congrArg Prod.fst h.view).trans e⟩

theorem InCall.fields (h : InCall s0 s) :
    s.result = .none ∧ s.sdec.sp = s0.sdec.sp ∧ s.sdec.started = true ∧ s.grain = .command ∧ s.inMem = s0.inMem ∧
      s.inKept = s0.inKept ∧ s.br.inputLength = s0.br.inputLength := by
  have view := h.view
  simp only [State.callView, Prod.mk.injEq] at view
  obtain ⟨-, result, sp, started, grain, input⟩ := view
  exact ⟨result.trans h.begun.result, sp, started.trans h.begun.started, grain.trans h.begun.grain, input⟩

/-- The bytes that were there for the reader are there still. -/
theorem InCall.supplied (h : InCall s0 s) (supplied : s0.Supplied) : s.Supplied := by
  obtain ⟨-, -, -, -, inMem, inKept, length⟩ := h.fields
  obtain ⟨⟨kept, inside⟩, bytes⟩ := supplied
  rw [← inMem, ← length] at inside bytes
  exact ⟨⟨inKept.trans kept, inside⟩, bytes⟩

theorem InCall.tried (h : InCall s0 s) (ph : Phase) : InCall s0 (s.tried ph) := by
  cases ph <;> exact h.step rfl (List.prefix_refl _)

/-- Before the first element of a try nothing needs to be repeated. -/
theorem Streams.first (call : InCall s0 s) (seq : s.seq = .decode .stream ph) (hph : ph.first = ph)
    (place : InPlace ph (s.tried ph)) : Streams s0 ph s := ⟨call, seq, place, retries_first hph s⟩

theorem GoesOn.first (call : InCall s0 s) (seq : s.seq = .decode .stream ph) (hph : ph.first = ph)
    (place : InPlace ph (s.tried ph)) : GoesOn s0 s := .inr ⟨ph, .first call seq hph place⟩

/-- Delivering what is new with a call that waits. -/
theorem delivers_needInput (h : InCall s0 s)
    (state : s.sdec.state = .blockHeaderStart ∨ s.sdec.state = .blockBodyStart ∨ s.sdec.state = .decodeBlockStart)
    (repeats : s0.Supplied → Repeats (needInput s)) : Delivers s0 (needInput s) := by
  obtain ⟨info, status⟩ := h.status
  obtain ⟨-, sp, -⟩ := h.fields
  refine ⟨rfl, ?_, h.grows, ?_, rfl, .inr ⟨?_, rfl, state, repeats⟩⟩
  · simp [needInput, status]
  · simp [needInput, sp]
  · simp [needInput, status]

/-- The end of a block (R305). -/
theorem endBlock_goesOn (h : InCall s0 s) (seq : s.seq = .decode .stream ph) : GoesOn s0 (endBlock s) := by
  obtain ⟨info, status⟩ := h.status
  obtain ⟨-, sp, -⟩ := h.fields
  cases hb : s.dec.bfinal with
  | false =>
    rw [endBlock_more seq hb]
    exact .first (ph := .blkHdr) (h.step rfl (List.prefix_refl _)) rfl rfl rfl
  | true =>
    rw [endBlock_stream seq hb]
    exact .inl (.inl ⟨rfl, by simp [status], h.grows, by simp [sp], rfl, .inl ⟨rfl, by simp [status], rfl, hb⟩⟩)

end
end Sys2Proof.Machine
end

section
/-! PROOFS. The turns of a streaming call: each ends the call or leads on to the next element. -/

namespace Sys2Proof.Machine

/-! ## A call, from its dispatch on -/

/-- The turns of a call, unless it is over before the first. -/
def settleAct : Act State → Outcome
  | .error s => .next s
  | .ok s => settle s

section
variable {s u : State} {chunk : Option (List Byte)} {off : Option Nat} (fault : s.status.fault = none)
  (done : s.status.done = false) (kept : s.InputKept)
include fault done kept

theorem exec_sdecCall_begun (first : firstCall off (appendChunk chunk (beginCommand false s)) = .ok u) :
    exec (.sdecCall chunk off) s = settleAct (dispatch u) := by
  obtain ⟨kept, length⟩ := kept
  rw [exec, execSdecCall, framed_runs fault, streamCall, if_neg (by simp [done]),
    withInput_runs (s := beginCommand false s) kept length, first]
  rfl

theorem exec_sdecCall_raises {f : FaultCode} {info : Nat}
    (first : firstCall off (appendChunk chunk (beginCommand false s)) = .error (raise f info u)) :
    exec (.sdecCall chunk off) s = .next (raise f info u) := by
  obtain ⟨kept, length⟩ := kept
  rw [exec, execSdecCall, framed_runs fault, streamCall, if_neg (by simp [done]),
    withInput_runs (s := beginCommand false s) kept length, first]

theorem exec_sdecCall_none (off : Option Nat) (started : s.sdec.started = true) :
    exec (.sdecCall none off) s = settleAct (dispatch (beginCommand false s)) :=
  exec_sdecCall_begun fault done kept (if_pos started)

end

/-- The tokens of a block go on (R305). -/
theorem dispatch_tokens {s : State} (state : s.sdec.state = .blockBodyEnd ∨ s.sdec.state = .decodeBlockStart)
    (btype : s.dec.btype ≠ .stored) : dispatch s = .ok ((streamAt .litLen s).streamState .decodeBlockStart) := by
  cases other : s.dec.btype with
  | stored => exact absurd other btype
  | fixed | dynamic | reserved => rcases state with state | state <;> simp only [dispatch, state, other]

section
variable {s0 s : State} {ph : Phase}

/-- A suspended call is taken up where its try began (R305). -/
theorem dispatch_suspend (h : InCall s0 s) (place : InPlace ph s) :
    dispatch (beginCommand false (suspend s)) = .ok (s.rewound ph) := by
  obtain ⟨info, status⟩ := h.status
  obtain ⟨result, -⟩ := h.fields
  have resumed : { beginCommand false (suspend s) with seq := .decode .stream ph.first } = s.rewound ph := by
    simp only [beginCommand, suspend, needInput, deliver, State.rewound, status, result, Dec.op]
    simp
  rw [← resumed]
  cases ph with
  | blkHdr => simp only [dispatch, show (beginCommand false (suspend s)).sdec.state = _ from place]; rfl
  | stored | dynHdr | clSym =>
    obtain ⟨state, btype⟩ := place
    simp only [dispatch, show (beginCommand false (suspend s)).sdec.state = _ from state,
      show (beginCommand false (suspend s)).dec.btype = _ from btype]
    rw [streamState_of_decode rfl, if_pos rfl, ← state]
    rfl
  | litLen | dist =>
    obtain ⟨state, btype⟩ := place
    rw [dispatch_tokens (s := beginCommand false (suspend s)) (.inr state) btype, streamState_of_decode rfl, if_pos rfl,
      ← state]
    rfl

theorem repeats_suspend (h : InCall s0 s) (place : InPlace ph s) (retries : Retries ph s)
    (again : turn (s.replayed ph) = .next (suspend (s.replayed ph))) (supplied : s0.Supplied) :
    Repeats (suspend s) := by
  intro off
  obtain ⟨info, status⟩ := h.status
  obtain ⟨-, -, started, grain, -⟩ := h.fields
  have fault : (suspend s).status.fault = none := by simp [suspend, needInput, status]
  have done : (suspend s).status.done = false := by simp [suspend, needInput, status]
  rw [exec_sdecCall_none (s := suspend s) fault done (h.supplied supplied).kept off started,
    dispatch_suspend h place, ← suspend_replayed ph]
  obtain ⟨t, settled, rfl⟩ := settle_of_reaches (P := (· = suspend (s.replayed ph))) (s := s.rewound ph) grain
    ⟨_, retries.tail ⟨Seq.noConfusion, again⟩, rfl, rfl⟩
  exact settled

theorem suspend_ends (h : InCall s0 s) (place : InPlace ph s) (repeats : s0.Supplied → Repeats (suspend s)) :
    Ends s0 (suspend s) := by
  refine .inl (delivers_needInput (h.step rfl (List.prefix_refl _)) ?_ repeats)
  cases ph with
  | blkHdr => exact .inl place
  | stored | dynHdr | clSym => exact .inr (.inl place.1)
  | litLen | dist => exact .inr (.inr place.1)

end

/-! ## Fetching -/

/-- The element `i` is read in `y`, with the cursor then at `r`, and so it is in any state that reads alike. -/
structure Scanned (ph : Phase) (y : State) (i : Instr) (r : Reader) : Prop where
  back   : r.back = y.br.back
  format : (encode i).format = ph.format
  seen   : ∀ z, Alike y z → SameTables ph y z → ∃ raw, fetchAt ph z = .ok (raw, { z with br := r }) ∧ decode raw = .ok i

theorem Scanned.turns {ph : Phase} {y z t : State} {i : Instr} {r : Reader} (h : Scanned ph y i r) (alike : Alike y z)
    (tables : SameTables ph y z) (seq : z.seq = .decode .stream ph) (tried : z.tried ph = z)
    (ht : execElement i { z with br := r } = .next t) : Turns z t := by
  obtain ⟨raw, fetched, hi⟩ := h.seen z alike tables
  exact .of_fetched (busy_of_decode seq) (by rw [fetchElement_of_stream seq, tried, fetched]) hi ht

theorem illegalElement_ends {s0 : State} (r : Raw) (s : State) : Ends s0 (illegalElement r s) := by
  unfold illegalElement
  split <;> exact .raise FaultCode.noConfusion _ _

theorem tried_seq (ph : Phase) (s : State) : (s.tried ph).seq = s.seq := by cases ph <;> rfl

section
variable {s0 s y : State} {ph : Phase}

theorem alike_replayed (h : y.seq = .decode .stream ph) : Alike y (y.replayed ph) := ⟨⟨ph, h⟩, ⟨ph, rfl⟩, rfl, rfl⟩

theorem sameTables_replayed : SameTables ph y (y.replayed ph) := ⟨rfl, rfl, rfl, fun e => ⟨rfl, if_pos e⟩⟩

/-- A turn suspends the call, or takes a fault, or executes the element it has read. -/
theorem Streams.fetches (h : Streams s0 ph s) {t : State} (ht : turn s = .next t) :
    Ends s0 t ∨ ∃ i r, Scanned ph (s.tried ph) i r ∧ execElement i { s.tried ph with br := r } = .next t := by
  have seq : (s.tried ph).seq = .decode .stream ph := (tried_seq ph s).trans h.seq
  have call := h.call.tried ph
  have scan := (alike_replayed seq).fetchAt sameTables_replayed
  have first := fetchElement_of_stream h.seq
  have again : fetchElement ((s.tried ph).replayed ph) = fetchAt ph ((s.tried ph).replayed ph) := by
    rw [fetchElement_of_stream (s := (s.tried ph).replayed ph) rfl, tried_replayed]
  rw [turn] at ht
  generalize ha : fetchAt ph (s.tried ph) = a at scan
  generalize hb : fetchAt ph ((s.tried ph).replayed ph) = b at scan
  rw [first, ha] at ht
  cases scan with
  | waits =>
    cases ht
    refine .inl (suspend_ends call h.place (repeats_suspend call h.place h.retries ?_))
    rw [turn, again, hb]
  | faults index u =>
    cases ht
    exact .inl (.raise FaultCode.noConfusion _ _)
  | @reads raw r format back =>
    dsimp only at ht
    split at ht
    next i hi =>
      refine .inr ⟨i, r, ⟨back, (decode_format hi).trans format, fun z alike tables => ⟨raw, ?_, hi⟩⟩, ht⟩
      have scan := alike.fetchAt tables
      rw [ha] at scan
      exact scan.follows
    next =>
      cases ht
      exact .inl (illegalElement_ends _ _)

end
end Sys2Proof.Machine
end

section
/-! PROOFS. The elements of a streaming call: after each the call has ended or goes on, and would take its try again. -/

namespace Sys2Proof.Machine

section
variable {s0 s t : State} {ph : Phase} {i : Instr} {r : Reader}

/-- Where an element has been read. -/
theorem Streams.fetched (h : Streams s0 ph s) (read : Scanned ph (s.tried ph) i r) :
    InCall s0 { s.tried ph with br := r } ∧ ({ s.tried ph with br := r } : State).seq = .decode .stream ph :=
  ⟨(h.call.tried ph).moved read.back, (tried_seq ph s).trans h.seq⟩

/-- The element is read again as part of the same try. -/
theorem Retries.next {ph' : Phase} {u v : State} (old : Retries ph u) (rewinds : v.rewound ph' = u.rewound ph)
    (again : Turns (u.replayed ph) (v.replayed ph')) : Retries ph' v := by
  unfold Retries
  rw [rewinds]
  exact old.tail again

/-! ## Block headers (R261) -/

theorem Streams.blkHdr (h : Streams s0 .blkHdr s) (read : Scanned .blkHdr (s.tried .blkHdr) i r)
    (ht : execElement i { s.tried .blkHdr with br := r } = .next t) : GoesOn s0 t := by
  obtain ⟨call, seq⟩ := h.fetched read
  have format := read.format
  have header (final : Bool) := blockHeadersSelectTheBlock _ .stream .blkHdr final seq
  cases i with
  | blockStored final =>
    obtain ⟨stored, -⟩ := header final
    cases stored.symm.trans ht
    exact .first (ph := .stored) (call.step rfl (List.prefix_refl _)) rfl rfl ⟨rfl, rfl⟩
  | blockFixed final =>
    obtain ⟨-, fixed, -⟩ := header final
    cases fixed.symm.trans ht
    exact .first (ph := .litLen) (call.step rfl (List.prefix_refl _)) rfl rfl ⟨rfl, BType.noConfusion⟩
  | blockDynamic final =>
    obtain ⟨-, -, dynamic, -⟩ := header final
    cases dynamic.symm.trans ht
    exact .first (ph := .dynHdr) (call.step rfl (List.prefix_refl _)) rfl rfl ⟨rfl, rfl⟩
  | blockReserved final => cases ht; exact .raise FaultCode.noConfusion _ _
  | _ => cases format

/-! ## Literals and matches (R273 to R277) -/

/-- After a token the next one follows. -/
theorem token_goesOn (call : InCall s0 s) (seq : s.seq = .decode .stream ph) (state : s.sdec.state = .decodeBlockStart)
    (btype : s.dec.btype ≠ .stored) (bs : List Byte) : GoesOn s0 ((s.withOut (s.dec.out ++ bs)).goto .litLen) := by
  rw [goto_of_decode (s := s.withOut (s.dec.out ++ bs)) seq]
  exact .first (ph := .litLen) (call.step rfl (List.prefix_append _ _)) rfl rfl ⟨state, btype⟩

theorem execLit_goesOn (call : InCall s0 s) (seq : s.seq = .decode .stream ph)
    (state : s.sdec.state = .decodeBlockStart) (btype : s.dec.btype ≠ .stored) {b : Byte}
    (ht : execLit b s = .next t) : GoesOn s0 t := by
  unfold execLit at ht
  rcases emit_cases b s with e | ⟨-, -, e⟩ <;> rw [e] at ht <;> cases ht
  · exact token_goesOn call seq state btype [b]
  · exact .raise FaultCode.noConfusion _ _

theorem takeDistance_goesOn (call : InCall s0 s) (seq : s.seq = .decode .stream ph)
    (state : s.sdec.state = .decodeBlockStart) (btype : s.dec.btype ≠ .stored) {distance : Nat}
    (ht : conclude (takeDistance distance s) = .next t) : GoesOn s0 t := by
  unfold takeDistance at ht
  split at ht
  · cases ht
    exact .raise FaultCode.noConfusion _ _
  · rcases copyMatch_cases distance s.dec.matchLen s with ⟨bs, -, e⟩ | ⟨u, info, e⟩ <;> rw [e] at ht <;> cases ht
    · exact token_goesOn call seq state btype bs
    · exact .raise FaultCode.noConfusion _ _

theorem Streams.dist (h : Streams s0 .dist s) (read : Scanned .dist (s.tried .dist) i r)
    (ht : execElement i { s.tried .dist with br := r } = .next t) : GoesOn s0 t := by
  obtain ⟨call, seq⟩ := h.fetched read
  obtain ⟨state, btype⟩ := h.place
  have format := read.format
  cases i with
  | dist0 | dist1 | dist2 | dist3 => exact takeDistance_goesOn call seq state btype ht
  | dist4 x | dist5 x | dist6 x | dist7 x | dist8 x | dist9 x | dist10 x | dist11 x | dist12 x | dist13 x | dist14 x
  | dist15 x | dist16 x | dist17 x | dist18 x | dist19 x | dist20 x | dist21 x | dist22 x | dist23 x | dist24 x
  | dist25 x | dist26 x | dist27 x | dist28 x | dist29 x =>
    exact takeDistance_goesOn call seq state btype ht
  | distInvalid30 | distInvalid31 => cases ht; exact .raise FaultCode.noConfusion _ _
  | _ => cases format

/-- The length is known, and the distance is part of the same try. -/
theorem Streams.takeLength (h : Streams s0 .litLen s) (read : Scanned .litLen (s.tried .litLen) i r) {n : Nat}
    (takes : ∀ u, execElement i u = .next (Machine.takeLength n u)) :
    GoesOn s0 (Machine.takeLength n { s.tried .litLen with br := r }) := by
  obtain ⟨call, seq⟩ := h.fetched read
  have again := read.turns (alike_replayed (tried_seq _ s |>.trans h.seq)) sameTables_replayed rfl rfl (takes _)
  rw [takeLength_of_decode seq]
  rw [takeLength_of_decode (s := { State.replayed .litLen (s.tried .litLen) with br := r }) rfl] at again
  refine .inr ⟨.dist, call.step rfl (List.prefix_refl _), rfl, h.place, h.retries.next ?_ again⟩
  simp only [State.rewound, State.tried, read.back]
  rfl

theorem Streams.litLen (h : Streams s0 .litLen s) (read : Scanned .litLen (s.tried .litLen) i r)
    (ht : execElement i { s.tried .litLen with br := r } = .next t) : GoesOn s0 t := by
  obtain ⟨call, seq⟩ := h.fetched read
  obtain ⟨state, btype⟩ := h.place
  have format := read.format
  cases i with
  | lit b => exact execLit_goesOn call seq state btype ht
  | eob => cases ht; exact endBlock_goesOn call seq
  | len257 | len258 | len259 | len260 | len261 | len262 | len263 | len264 | len285 =>
    cases ht
    exact h.takeLength read fun _ => rfl
  | len265 x | len266 x | len267 x | len268 x | len269 x | len270 x | len271 x | len272 x | len273 x | len274 x
  | len275 x | len276 x | len277 x | len278 x | len279 x | len280 x | len281 x | len282 x | len283 x | len284 x =>
    cases ht
    exact h.takeLength read fun _ => rfl
  | llInvalid286 | llInvalid287 => cases ht; exact .raise FaultCode.noConfusion _ _
  | _ => cases format

end
end Sys2Proof.Machine
end

section
/-! PROOFS. The dynamic header of a streaming call: all of it is one try (R304). -/

namespace Sys2Proof.Machine

section
variable {s0 s t : State} {ph : Phase} {i : Instr} {r : Reader}

/-- The table is built, or its lengths are over-subscribed (R166). -/
theorem buildHeaderTable_cases (lens : List Nat) (s : State) :
    buildHeaderTable lens s = .error (raise .eHeader 0 s) ∨
      ∃ table c, htbBuild lens = .ok (table, c) ∧ buildHeaderTable lens s = .ok (table, s.tableBuilt table c) := by
  cases built : htbBuild lens with
  | error => exact .inl (buildHeaderTable_full built s)
  | ok x => exact .inr ⟨x.1, x.2, rfl, buildHeaderTable_ok built s⟩

theorem finishHeader_goesOn (call : InCall s0 s) (seq : s.seq = .decode .stream ph) (dynamic : s.dec.btype = .dynamic)
    (ht : conclude (finishHeader s) = .next t) : GoesOn s0 t := by
  rw [finishHeader_eq] at ht
  rcases buildHeaderTable_cases (s.dec.hdr.lens.take s.dec.hdr.hlit) s with e | ⟨ll, c, -, e⟩ <;> rw [e] at ht
  · cases ht; exact .raise FaultCode.noConfusion _ _
  let u := s.tableBuilt ll c
  dsimp only [Except.bind] at ht
  rcases buildHeaderTable_cases ((u.dec.hdr.lens.drop u.dec.hdr.hlit).take u.dec.hdr.hdist) u with e | ⟨d, c', -, e⟩ <;>
    rw [e] at ht <;> cases ht
  · exact .raise FaultCode.noConfusion _ _
  · have seq' : (s.blockTables ll d c').seq = .decode .stream ph := seq
    have next := goto_streamState seq' .decodeBlockStart .litLen
    refine (congrArg (GoesOn s0) next).mpr
      (.first (ph := .litLen) (call.step rfl (List.prefix_refl _)) rfl rfl ⟨rfl, ?_⟩)
    exact fun stored : s.dec.btype = .stored => BType.noConfusion (stored.symm.trans dynamic)

/-- A code-length symbol stands for some lengths, but a repeat of nothing is E_HEADER (R271). -/
theorem clRun_cases (format : (encode i).format = .clSym) (s : State) :
    (∃ new, clRun i s.dec.hdr.lens = some new) ∨ execElement i s = .next (raise .eHeader 16 s) := by
  cases i with
  | cl16 x =>
    cases last : s.dec.hdr.lens.getLast? with
    | none => exact .inr (by rw [execElement, execCl16, last])
    | some prev => exact .inl ⟨_, by rw [clRun, last]; rfl⟩
  | cl0 | cl1 | cl2 | cl3 | cl4 | cl5 | cl6 | cl7 | cl8 | cl9 | cl10 | cl11 | cl12 | cl13 | cl14 | cl15 | cl17 | cl18 =>
    exact .inl ⟨_, rfl⟩
  | _ => cases format

theorem Streams.clSym (h : Streams s0 .clSym s) (read : Scanned .clSym (s.tried .clSym) i r)
    (ht : execElement i { s.tried .clSym with br := r } = .next t) : GoesOn s0 t := by
  obtain ⟨call, seq⟩ := h.fetched read
  obtain ⟨state, dynamic⟩ := h.place
  have format := read.format
  rcases clRun_cases format { s.tried .clSym with br := r } with ⟨new, run⟩ | fault
  case inr => cases fault.symm.trans ht; exact .raise FaultCode.noConfusion _ _
  have element (u : State) : execElement i u = exec i u :=
    (exec_eq_execElement i u (by rw [format]; exact Format.noConfusion)).symm
  have appends (u : State) (hu : u.seq = .decode .stream .clSym) :=
    (codeLengthSymbolsAppendTheirLengths u .stream .clSym i new hu).1
  by_cases more : s.dec.hdr.lens.length + new.length < s.dec.hdr.hlit + s.dec.hdr.hdist
  · cases (appends _ seq run more).symm.trans ((element _).symm.trans ht)
    have again := read.turns (alike_replayed h.seq) sameTables_replayed rfl rfl
      ((element _).trans (appends _ (by exact rfl) run more))
    refine .inr ⟨.clSym, call.step rfl (List.prefix_refl _), rfl, ⟨state, dynamic⟩, h.retries.next ?_ again⟩
    simp only [State.rewound, State.tried, read.back]
    rfl
  · rw [element, exec_of_clRun run] at ht
    split at ht
    · cases ht; exact .raise FaultCode.noConfusion _ _
    · rw [headerTurn, if_neg (by simpa [State.withLengths, State.tried] using more)] at ht
      exact finishHeader_goesOn (s := State.withLengths new _) (call.step rfl (List.prefix_refl _)) seq dynamic ht

theorem dynamicHeader_raises {hlit hdist : Nat} (illegal : ¬ (hlit ≤ 286 ∧ hdist ≤ 30)) (hclen : Nat) (s : State) :
    ∃ info, dynamicHeader hlit hdist hclen s = .error (raise .eHeader info s) := by
  unfold dynamicHeader
  split
  · exact ⟨_, rfl⟩
  · exact ⟨hdist, by rw [if_pos (by omega)]⟩

/-- What follows in a dynamic header when its code-length lengths are read (R270). -/
def afterClLengths (hlit hdist : Nat) (lens : List Nat) (s : State) : Act State :=
  (buildHeaderTable lens { s with lenCL := .of lens }).map fun x => (x.2.headerBuilt hlit hdist x.1).goto .clSym

theorem afterClLengths_full {lens : List Nat} {sym : Nat} (full : htbBuild lens = .error sym) (hlit hdist : Nat)
    (s : State) : ∃ u, afterClLengths hlit hdist lens s = .error (raise .eHeader 0 u) :=
  ⟨_, congrArg (Except.map _) (buildHeaderTable_full full _)⟩

/-- The state in which the code-length table of a streaming call's header is known. -/
def State.clKnown (hlit hdist : Nat) (lens : List Nat) (cl : DecodeTable) (n : Nat) (s : State) : State :=
  { (({ s with lenCL := .of lens } : State).tableBuilt cl n).headerBuilt hlit hdist cl with
    seq := .decode .stream .clSym }

theorem afterClLengths_ok {lens : List Nat} {cl : DecodeTable} {n : Nat} (built : htbBuild lens = .ok (cl, n))
    (hlit hdist : Nat) (seq : s.seq = .decode .stream ph) :
    afterClLengths hlit hdist lens s = .ok (s.clKnown hlit hdist lens cl n) := by
  have known := congrArg (Except.map fun x : DecodeTable × State => (x.2.headerBuilt hlit hdist x.1).goto .clSym)
    (buildHeaderTable_ok built { s with lenCL := .of lens })
  have seq' : ((({ s with lenCL := .of lens } : State).tableBuilt cl n).headerBuilt hlit hdist cl).seq =
    .decode .stream ph := seq
  exact known.trans (congrArg _ (goto_of_decode seq' .clSym))

/-- The code-length lengths of a header, read from `r`. -/
def clLengthsFrom (hclen : Nat) (r : Reader) (s : State) : Act (List Nat × State) :=
  readClLengths (clOrder.take hclen) (List.replicate Config.nCl 0) { s with br := r }

/-- The code-length lengths and the symbols after them belong to the try that the counts began. -/
theorem Streams.dynHdr (h : Streams s0 .dynHdr s) (read : Scanned .dynHdr (s.tried .dynHdr) i r)
    (ht : execElement i { s.tried .dynHdr with br := r } = .next t) : GoesOn s0 t := by
  obtain ⟨call, seq⟩ := h.fetched read
  have format := read.format
  cases i with
  | dynHdr l d c =>
    by_cases legal : l.toNat + 257 ≤ 286 ∧ d.toNat + 1 ≤ 30
    case neg =>
      obtain ⟨info, e⟩ := dynamicHeader_raises legal (c.toNat + 4) { s.tried .dynHdr with br := r }
      have raised : execDynHdr l d c { s.tried .dynHdr with br := r } = _ := congrArg conclude e
      cases raised.symm.trans ht
      exact .raise FaultCode.noConfusion _ _
    have element (z : State) : execElement (.dynHdr l d c) { z with br := r } = conclude
        ((clLengthsFrom (c.toNat + 4) r z).bind fun x => afterClLengths (l.toNat + 257) (d.toNat + 1) x.1 x.2) :=
      congrArg conclude (dynamicHeader_eq legal.1 legal.2 _ _)
    have scan (z : State) (alike : Alike (s.tried .dynHdr) z) : Scan (fun _ => True) (s.tried .dynHdr) z
        (clLengthsFrom (c.toNat + 4) r (s.tried .dynHdr)) (clLengthsFrom (c.toNat + 4) r z) :=
      ((alike.withReader r).readClLengths ..).moved read.back alike.br
    have replayed := alike_replayed (y := s.tried .dynHdr) h.seq
    have first := scan _ replayed
    rw [element] at ht
    generalize ha : clLengthsFrom (c.toNat + 4) r (s.tried .dynHdr) = a at scan ht first
    generalize hb : clLengthsFrom (c.toNat + 4) r ((s.tried .dynHdr).replayed .dynHdr) = b at first
    cases first with
    | waits =>
      cases ht
      have call := h.call.tried .dynHdr
      refine .inl (suspend_ends call h.place (repeats_suspend call h.place h.retries ?_))
      exact (read.turns replayed sameTables_replayed rfl (tried_replayed ..) (by rw [element, hb]; rfl)).2
    | faults index u =>
      cases ht
      exact .raise FaultCode.noConfusion _ _
    | @reads lens r' _ back =>
      cases built : htbBuild lens with
      | error sym =>
        obtain ⟨u, e⟩ := afterClLengths_full built (l.toNat + 257) (d.toNat + 1) { s.tried .dynHdr with br := r' }
        cases ((congrArg conclude e).symm.trans ht :)
        exact .raise FaultCode.noConfusion _ _
      | ok x =>
        have goes (z : State) (hz : z.seq = .decode .stream .dynHdr) := congrArg conclude
          (afterClLengths_ok (s := { z with br := r' }) built (l.toNat + 257) (d.toNat + 1) hz)
        cases ((goes _ h.seq).symm.trans ht :)
        have moved := (h.call.tried .dynHdr).moved back
        refine .inr ⟨.clSym, moved.step rfl (List.prefix_refl _), rfl, h.place, .single ?_⟩
        generalize hv : State.rewound .clSym _ = v
        have alike : Alike (s.tried .dynHdr) v := by rw [← hv]; exact ⟨⟨_, h.seq⟩, ⟨_, rfl⟩, rfl, back⟩
        refine read.turns alike (by rw [← hv]; exact ⟨rfl, rfl, rfl, nofun⟩) (by rw [← hv]; rfl) ?_ ?_
        · have kept : v.br.keep = v.br := by rw [alike.br]; rfl
          simp only [State.tried, kept]
        · have again : clLengthsFrom (c.toNat + 4) r v = _ := (scan v alike).follows
          rw [element, again]
          refine (goes v (by rw [← hv]; rfl)).trans ?_
          rw [← hv]
          rfl
  | _ => cases format

end
end Sys2Proof.Machine
end

section
/-! PROOFS. The stored blocks of a streaming call (R263, R264, R305): a call stops between two bytes. -/

namespace Sys2Proof.Machine

theorem Reader.refill_of_held {m : Memory} {n : Nat} {r : Reader} (held : n ≤ r.acclen) (fuel : Nat) :
    r.refill m n fuel = r := by
  cases fuel with
  | zero => rfl
  | succ fuel => rw [Reader.refill, if_neg (by omega)]

/-- While eight bits are left, a byte is there to be read. -/
theorem Reader.refill_byte {m : Memory} {r : Reader} (bytes : ∀ a < r.inputLength, (m.read a).isSome = true)
    (left : 8 ≤ 8 * r.inputLength - r.pos) : 8 ≤ (r.refill m 8 8).acclen := by
  by_cases held : 8 ≤ r.acclen
  · rwa [Reader.refill_of_held held]
  · have inside : r.ip < r.inputLength := by simp only [Reader.pos] at left; omega
    obtain ⟨b, hb⟩ := Option.isSome_iff_exists.mp (bytes _ inside)
    rw [Reader.refill, if_pos ⟨by omega, inside⟩, hb]
    dsimp only
    rw [Reader.refill_of_held (by simp only; omega)]
    simp only; omega

section
variable {s0 s t : State} {ph : Phase} {i : Instr} {r : Reader}

/-- Before a stored byte (R305). -/
structure Storing (s0 s : State) (n : Nat) : Prop where
  call  : InCall s0 s
  seq   : s.seq = .decode .stream .stored
  state : s.sdec.state = .decodeBlockStart
  btype : s.dec.btype = .stored
  left  : s.dec.blockLen = n

theorem storedBody_of_stream (h : s.seq = .decode .stream ph) :
    storedBody s = (copyStored s.dec.blockLen s).map endBlock := by
  rw [storedBody, if_neg (by simp [job_of_decode h])]

theorem storedBody_waits {n : Nat} (h : s.seq = .decode .stream ph) (left : s.dec.blockLen = n + 1)
    (out : 8 * s.br.inputLength - s.br.pos < 8) : storedBody s = .error (needInput s) := by
  rw [storedBody_of_stream h, left, copyStored, if_pos ⟨out, job_of_decode h⟩]
  rfl

/-- Where no byte is left, the call waits, and so it would again. -/
theorem Storing.needInput_ends {n : Nat} (h : Storing s0 s (n + 1)) (out : 8 * s.br.inputLength - s.br.pos < 8) :
    Ends s0 (needInput s) := by
  refine .inl (delivers_needInput h.call (.inr (.inr h.state)) fun supplied off => ?_)
  obtain ⟨info, status⟩ := h.call.status
  obtain ⟨result, -, started, -⟩ := h.call.fields
  have fault : (needInput s).status.fault = none := by simp [needInput, status]
  have done : (needInput s).status.done = false := by simp [needInput, status]
  rw [exec_sdecCall_none (s := needInput s) fault done (h.call.supplied supplied).kept off started]
  have resumed : (streamAt .stored (beginCommand false (needInput s))).streamState .decodeBlockStart =
      { s with sdec := { s.sdec with sp := s.dec.op } } := by
    rw [streamState_of_decode rfl, if_pos rfl, ← h.state]
    simp only [streamAt, beginCommand, needInput, deliver, status, result, h.seq, Dec.op]
    simp
  have body : dispatch (beginCommand false (needInput s)) =
      .error (needInput { s with sdec := { s.sdec with sp := s.dec.op } }) := by
    simp only [dispatch, show (beginCommand false (needInput s)).sdec.state = _ from h.state,
      show (beginCommand false (needInput s)).dec.btype = _ from h.btype]
    rw [resumed]
    exact storedBody_waits (s := { s with sdec := { s.sdec with sp := s.dec.op } }) h.seq h.left out
  rw [body]
  simp [settleAct, needInput, deliver, Dec.op]

theorem Storing.copyStored_cases {n : Nat} (h : Storing s0 s n) :
    (∃ t, copyStored n s = .error t ∧ Ends s0 t) ∨ ∃ t, copyStored n s = .ok t ∧ Storing s0 t 0 := by
  induction n generalizing s with
  | zero => exact .inr ⟨s, rfl, h⟩
  | succ n ih =>
    have job := job_of_decode h.seq
    by_cases out : 8 * s.br.inputLength - s.br.pos < 8
    · exact .inl ⟨_, by rw [copyStored, if_pos ⟨out, job⟩], h.needInput_ends out⟩
    rw [copyStored, if_neg fun c => out c.1, flushBlocks_of_not_block h.seq Job.noConfusion]
    have back := s.br.refill_back s.inMem 8 8
    by_cases short : (s.br.refill s.inMem 8 8).acclen < 8
    · have waits : readBits 8 s = .error (exhausted { s with br := s.br.refill s.inMem 8 8 }) := if_pos short
      rw [exhausted_of_stream (s := { s with br := s.br.refill s.inMem 8 8 }) h.seq, suspend_of_back back] at waits
      rw [waits]
      refine .inl ⟨_, rfl, .inl (delivers_needInput (h.call.step rfl (List.prefix_refl _)) (.inr (.inr h.state)) ?_)⟩
      intro supplied
      have loaded := Reader.refill_byte (h.call.supplied supplied).bytes (by omega)
      omega
    · have reads : readBits 8 s = .ok (_, { s with br := (s.br.refill s.inMem 8 8).drop 8 }) := if_neg short
      rw [reads]
      dsimp only
      rcases emit_cases (BitVec.ofNat 8 ((s.br.refill s.inMem 8 8).acc % 2 ^ 8))
        { s with br := (s.br.refill s.inMem 8 8).drop 8 } with e | ⟨-, -, e⟩ <;> rw [e] <;> dsimp only
      · exact ih ⟨(h.call.moved back).step rfl (List.prefix_append _ _), h.seq, h.state, h.btype, rfl⟩
      · exact .inl ⟨_, rfl, .raise FaultCode.noConfusion _ _⟩

/-- What a part of a call leads to: it is ended by an error, and else ended or going on. -/
def LeadsOn (s0 : State) : Act State → Prop
  | .error t => Ends s0 t
  | .ok t => GoesOn s0 t

theorem Storing.leads {n : Nat} (h : Storing s0 s n) : LeadsOn s0 (storedBody s) := by
  rw [storedBody_of_stream h.seq, h.left]
  rcases h.copyStored_cases with ⟨u, e, ends⟩ | ⟨u, e, done⟩ <;> rw [e]
  · exact ends
  · exact endBlock_goesOn done.call done.seq

theorem LeadsOn.conclude {a : Act State} (h : LeadsOn s0 a) (ht : Machine.conclude a = .next t) : GoesOn s0 t := by
  cases a <;> cases ht
  · exact .inl h
  · exact h

theorem Streams.stored (h : Streams s0 .stored s) (read : Scanned .stored (s.tried .stored) i r)
    (ht : execElement i { s.tried .stored with br := r } = .next t) : GoesOn s0 t := by
  obtain ⟨call, seq⟩ := h.fetched read
  obtain ⟨-, btype⟩ := h.place
  have format := read.format
  cases i with
  | storedHdr len nlen =>
    by_cases agree : len ^^^ nlen = 0xFFFF
    · have body := exec_storedHdr seq agree
      have storing : Storing s0 (State.storedBegun .stream len.toNat { s.tried .stored with br := r }) len.toNat :=
        ⟨call.step rfl (List.prefix_refl _), seq, rfl, btype, rfl⟩
      exact storing.leads.conclude (body.symm.trans ht)
    · have raised : execStoredHdr len nlen { s.tried .stored with br := r } = _ := if_pos agree
      cases raised.symm.trans ht
      exact .raise FaultCode.noConfusion _ _
  | _ => cases format

/-! ## Turns and calls -/

/-- A turn of a streaming call ends it or leads on. -/
theorem Streams.turn (h : Streams s0 ph s) (ht : Machine.turn s = .next t) : GoesOn s0 t := by
  rcases h.fetches ht with ends | ⟨i, r, read, ht⟩
  · exact .inl ends
  · cases ph with
    | blkHdr => exact h.blkHdr read ht
    | stored => exact h.stored read ht
    | dynHdr => exact h.dynHdr read ht
    | clSym => exact h.clSym read ht
    | litLen => exact h.litLen read ht
    | dist => exact h.dist read ht

end
end Sys2Proof.Machine
end

section
/-! PROOFS. Streaming calls as a whole (R302, R303, R310, R313, R338). -/

namespace Sys2Proof.Machine

section
variable {s0 s t : State} {ph : Phase} {off : Option Nat} {chunk : Option (List Byte)}

/-! ## A call comes to its end -/

theorem Ends.idle (h : Ends s0 t) : t.seq = .idle := by
  rcases h with delivers | ⟨f, info, u, rfl, -⟩
  · exact delivers.idle
  · rfl

theorem Streams.runTurns_ends {fuel : Nat} (h : Streams s0 ph s) (ht : runTurns fuel s = .next t)
    (idle : t.seq = .idle) : Ends s0 t := by
  induction fuel generalizing s ph with
  | zero => cases ht; rw [h.seq] at idle; cases idle
  | succ fuel ih =>
    rw [runTurns] at ht
    split at ht
    next other => rw [h.seq] at other; cases other
    split at ht
    next u hu =>
      rcases h.turn hu with ends | ⟨_, on⟩
      · rw [runTurns_of_idle ends.idle] at ht
        cases ht
        exact ends
      · exact ih on ht
    next none => exact absurd ht (none t)

theorem GoesOn.settle_ends (h : GoesOn s0 s) (ht : settle s = .next t) : Ends s0 t := by
  rcases h with ends | ⟨ph, on⟩
  · unfold settle at ht
    split at ht
    · rw [runTurns_of_idle ends.idle] at ht; cases ht; exact ends
    · cases ht; exact ends
  · obtain ⟨-, -, -, grain, -⟩ := on.call.fields
    have run : runTurns (turnBound s) s = .next t := by rw [← ht, settle, grain]
    obtain ⟨-, idle⟩ := runTurns_next run
    exact on.runTurns_ends run (idle (workLeft_lt_turnBound s))

theorem LeadsOn.settle_ends {a : Act State} (h : LeadsOn s0 a) (ht : settleAct a = .next t) : Ends s0 t := by
  cases a with
  | error u => cases ht; exact h
  | ok u => exact GoesOn.settle_ends h ht

/-! ## A call begins -/

theorem InCall.begins (begun : s0.Begun) : InCall s0 s0 := ⟨begun, rfl, List.prefix_refl _⟩

/-- Dispatch (R305): the call goes on where SDEC.state says. -/
theorem dispatch_leads (begun : s0.Begun) : LeadsOn s0 (dispatch s0) := by
  have call {v : State} (view : v.callView = s0.callView) (out : v.dec.out = s0.dec.out) : InCall s0 v :=
    (InCall.begins begun).step view (out ▸ List.prefix_refl _)
  cases state : s0.sdec.state with
  | initialized | blockHeaderStart =>
    simp only [dispatch, state]
    exact .first (ph := .blkHdr) (call rfl rfl) rfl rfl rfl
  | blockHeaderEnd | blockBodyStart =>
    cases btype : s0.dec.btype with
    | stored =>
      simp only [dispatch, state, btype]
      exact .first (ph := .stored) (call rfl rfl) rfl rfl ⟨rfl, btype⟩
    | fixed =>
      simp only [dispatch, state, btype]
      exact .first (ph := .litLen) (call rfl rfl) rfl rfl ⟨rfl, fun h => BType.noConfusion (btype.symm.trans h)⟩
    | dynamic =>
      simp only [dispatch, state, btype]
      exact .first (ph := .dynHdr) (call rfl rfl) rfl rfl ⟨rfl, btype⟩
    | reserved =>
      simp only [dispatch, state, btype]
      exact .raise FaultCode.noConfusion _ _
  | blockBodyEnd | decodeBlockStart =>
    by_cases btype : s0.dec.btype = .stored
    · simp only [dispatch, state, btype]
      exact Storing.leads (n := s0.dec.blockLen) ⟨call rfl rfl, rfl, rfl, btype, rfl⟩
    · rw [dispatch_tokens (by simp [state]) btype]
      exact .first (ph := .litLen) (call rfl rfl) rfl rfl ⟨rfl, btype⟩
  | decodeBlockEnd =>
    simp only [dispatch, state]
    exact endBlock_goesOn (ph := .blkHdr) (call rfl rfl) rfl

theorem firstCall_cases (off : Option Nat) (s : State) :
    (∃ info u, firstCall off s = .error (raise .eApi info u)) ∨
      ∃ ip, firstCall off s =
        .ok { s with sdec := { s.sdec with started := true }, br := { s.br with ip := ip } } := by
  unfold firstCall
  by_cases started : s.sdec.started = true
  · rw [if_pos started, ← started]
    exact .inr ⟨s.br.ip, rfl⟩
  · rw [if_neg started]
    cases off with
    | none => exact .inr ⟨s.br.ip, rfl⟩
    | some off =>
      by_cases beyond : off > s.br.inputLength
      · exact .inl ⟨off, _, if_pos beyond⟩
      · exact .inr ⟨off, if_neg beyond⟩

/-- The state in which a call has begun, with its chunk behind the bytes there were. -/
def State.callBegun (chunk : Option (List Byte)) (ip : Nat) (s : State) : State :=
  let u := appendChunk chunk (beginCommand false s)
  { u with sdec := { u.sdec with started := true }, br := { u.br with ip := ip } }

theorem State.callBegun_status (chunk : Option (List Byte)) (ip : Nat) (s : State) :
    (s.callBegun chunk ip).status = { s.status with needInput := false } := by cases chunk <;> rfl

theorem State.callBegun_begun (fault : s.status.fault = none) (done : s.status.done = false)
    (grain : s.grain = .command) (chunk : Option (List Byte)) (ip : Nat) : (s.callBegun chunk ip).Begun where
  status := ⟨s.status.faultInfo, by rw [State.callBegun_status]; simp [fault, done]⟩
  result := by cases chunk <;> rfl
  started := rfl
  grain := by cases chunk <;> exact grain

/-- What every call comes to that is not over before it begins. -/
theorem exec_sdecCall_ends (fault : s.status.fault = none) (done : s.status.done = false) (grain : s.grain = .command)
    (ht : exec (.sdecCall chunk off) s = .next t) :
    (∃ info u, t = raise .eApi info u) ∨
      ∃ ip, s.InputKept ∧ Ends (s.callBegun chunk ip) t := by
  by_cases kept : s.InputKept
  · rcases firstCall_cases off (appendChunk chunk (beginCommand false s)) with ⟨info, u, e⟩ | ⟨ip, e⟩
    · rw [exec_sdecCall_raises fault done kept e] at ht
      cases ht
      exact .inl ⟨info, u, rfl⟩
    · have begun := State.callBegun_begun fault done grain chunk ip
      rw [exec_sdecCall_begun fault done kept (u := s.callBegun chunk ip) e] at ht
      exact .inr ⟨ip, kept, (dispatch_leads begun).settle_ends ht⟩
  · rw [exec, execSdecCall, framed_runs fault, streamCall, if_neg (by simp [done]),
      withInput_stops (s := beginCommand false s) kept] at ht
    cases ht

/-! ## The obligations of every call -/

theorem exec_sdecCall_done (fault : s.status.fault = none) (done : s.status.done = true) (chunk : Option (List Byte))
    (off : Option Nat) : exec (.sdecCall chunk off) s = .next (s.ended (.bytes [])) := by
  rw [exec, execSdecCall, framed_runs fault, streamCall, if_pos (by simp [done])]
  rfl

/-- Settles O57: a call ends in a delivery or in a fault of another name. -/
theorem sdecCallNeverTruncates : Obligations.SdecCallNeverTruncates := by
  intro s t chunk off idle grain fault ht
  cases done : s.status.done with
  | true =>
    rw [exec_sdecCall_done fault done] at ht
    cases ht
    change s.status.fault ≠ _
    rw [fault]
    nofun
  | false =>
    rcases exec_sdecCall_ends fault done grain ht with ⟨info, u, rfl⟩ | ⟨ip, -, delivers | ⟨f, info, u, rfl, other⟩⟩
    · exact fun h => FaultCode.noConfusion (Option.some.inj h)
    · rw [delivers.fault]; nofun
    · exact fun h => other (Option.some.inj h)

theorem State.callBegun_dec (chunk : Option (List Byte)) (ip : Nat) (s : State) :
    (s.callBegun chunk ip).dec = s.dec ∧ (s.callBegun chunk ip).sdec.sp = s.sdec.sp := by
  cases chunk <;> exact ⟨rfl, rfl⟩

/-- Settles O56: a call that takes no fault has delivered. -/
theorem sdecCallDeliversWhatIsNew : Obligations.SdecCallDeliversWhatIsNew := by
  intro s t chunk off idle grain fault done ht faultless
  rcases exec_sdecCall_ends fault done grain ht with ⟨info, u, rfl⟩ | ⟨ip, -, delivers | ⟨f, info, u, rfl, other⟩⟩
  · cases faultless
  · obtain ⟨idle, -, grows, result, sp, ends⟩ := delivers
    obtain ⟨dec, sp0⟩ := State.callBegun_dec chunk ip s
    rw [dec] at grows
    rw [sp0] at result
    refine ⟨idle, grows, result, sp, ?_⟩
    rcases ends with finished | waits
    · exact ⟨by simp [finished.done, finished.needInput], fun _ => ⟨finished.state, finished.bfinal⟩,
        by simp [finished.needInput]⟩
    · exact ⟨by simp [waits.done, waits.needInput], by simp [waits.done], fun _ => waits.state⟩
  · cases faultless

end

/-! ## The bytes of a stream (R301) -/

theorem Memory.write_ofBytes (a : Nat) (bs : List Byte) (v : Byte) :
    (Memory.ofBytes a bs).write (a + bs.length) v = Memory.ofBytes a (bs ++ [v]) := by
  induction bs generalizing a with
  | nil => rfl
  | cons b bs ih =>
    have next := ih (a + 1)
    rw [Nat.add_assoc, Nat.add_comm 1] at next
    rw [Memory.ofBytes, Memory.write, List.length_cons, if_neg (by omega), if_neg (by omega), next]
    rfl

theorem Memory.writeBytes_ofBytes (a : Nat) (bs cs : List Byte) :
    (Memory.ofBytes a bs).writeBytes (a + bs.length) cs = Memory.ofBytes a (bs ++ cs) := by
  induction cs generalizing bs with
  | nil => rw [List.append_nil]; rfl
  | cons c cs ih =>
    have next := ih (bs ++ [c])
    rw [List.length_append, List.append_assoc] at next
    rw [Memory.writeBytes, Memory.write_ofBytes, Nat.add_assoc]
    exact next

theorem Memory.below_ofBytes_take (n a : Nat) (bs : List Byte) :
    (Memory.ofBytes a bs).below n = Memory.ofBytes a (bs.take (n - a)) := by
  induction bs generalizing a with
  | nil => simp [Memory.ofBytes, Memory.below]
  | cons b bs ih =>
    have rest := ih (a + 1)
    unfold Memory.below at rest ⊢
    rw [Memory.ofBytes, List.filter_cons, rest]
    by_cases inside : a < n
    · rw [if_pos (by simpa using inside), show n - a = n - (a + 1) + 1 by omega]
      rfl
    · rw [if_neg (by simpa using inside), show n - a = 0 by omega, show n - (a + 1) = 0 by omega]
      rfl

/-- The stream's bytes and a chunk behind them. -/
theorem appendChunk_ofBytes {s : State} {bytes : List Byte} (input : s.inMem = Memory.ofBytes 0 bytes)
    (inside : s.br.inputLength ≤ bytes.length) (chunk : List Byte) :
    (appendChunk (some chunk) s).inMem = Memory.ofBytes 0 (bytes.take s.br.inputLength ++ chunk) := by
  have size : (bytes.take s.br.inputLength).length = s.br.inputLength := by simpa using inside
  have appended := Memory.writeBytes_ofBytes 0 (bytes.take s.br.inputLength) chunk
  rw [size, Nat.zero_add] at appended
  rw [← appended, ← Nat.sub_zero s.br.inputLength, ← Memory.below_ofBytes_take, ← input]
  rfl

/-- Laid out bytes from 0 are there for the reader. -/
theorem State.Supplied.of_ofBytes {s : State} {bytes : List Byte} (kept : s.inKept = true)
    (input : s.inMem = Memory.ofBytes 0 bytes) (inside : s.br.inputLength ≤ bytes.length) : s.Supplied where
  kept := ⟨kept, by rw [input, Memory.length_ofBytes]; exact inside⟩
  bytes a ha := by
    have read := Memory.read_ofBytes 0 a bytes
    rw [Nat.zero_add] at read
    rw [input, read, List.getElem?_eq_getElem (ha.trans_le inside)]
    rfl

theorem State.callBegun_supplied {s : State} {bytes : List Byte} (kept : s.InputKept)
    (input : s.inMem = Memory.ofBytes 0 bytes) (chunk : Option (List Byte)) (ip : Nat) :
    (s.callBegun chunk ip).Supplied := by
  obtain ⟨kept, inside⟩ := kept
  rw [input, Memory.length_ofBytes] at inside
  cases chunk with
  | none => exact .of_ofBytes (s := s.callBegun none ip) kept input inside
  | some chunk =>
    have whole : (bytes.take s.br.inputLength ++ chunk).length = s.br.inputLength + chunk.length := by
      simpa using inside
    exact .of_ofBytes (s := s.callBegun (some chunk) ip) kept
      (appendChunk_ofBytes (s := beginCommand false s) input inside chunk) whole.ge

/-- Settles O58: a call that waits has come to a state in which its last try, repeated, waits again. -/
theorem waitingCallChangesNothing : Obligations.WaitingCallChangesNothing := by
  intro s t bytes chunk off idle grain fault input ht waiting
  cases done : s.status.done with
  | true =>
    rw [exec_sdecCall_done fault done] at ht
    cases ht
    cases waiting
  | false =>
    rcases exec_sdecCall_ends fault done grain ht with
      ⟨info, u, rfl⟩ | ⟨ip, kept, ⟨-, -, -, -, -, finished | waits⟩ | ⟨f, info, u, rfl, other⟩⟩
    · cases waiting
    · exact absurd finished.needInput (by simp [waiting])
    · exact waits.repeats (s.callBegun_supplied kept input chunk ip)
    · cases waiting

end Sys2Proof.Machine
end

section
/-! PROOFS. SDEC.CALL on a stored stream (R302, R312, R313): one call follows the blocks to the end of the stream. -/

namespace Sys2Proof.Machine

/-! ## Bytes to come -/

/-- The bytes of a memory from `a` on begin with these. -/
def Memory.Holds (m : Memory) (a : Nat) (bs : List Byte) : Prop := ∀ k b, bs[k]? = some b → m.read (a + k) = some b

theorem Memory.holds_append {m : Memory} {a : Nat} {bs cs : List Byte} (h : m.Holds a (bs ++ cs)) :
    m.Holds a bs ∧ m.Holds (a + bs.length) cs := by
  refine ⟨fun k b hb => h k b ?_, fun k c hc => ?_⟩
  · rw [List.getElem?_append_left (List.getElem?_eq_some_iff.mp hb).1, hb]
  · rw [Nat.add_assoc]
    exact h _ c (by rw [List.getElem?_append_right (Nat.le_add_right _ _), Nat.add_sub_cancel_left, hc])

theorem Memory.holds_ofBytes (head bs : List Byte) : (Memory.ofBytes 0 (head ++ bs)).Holds head.length bs := by
  intro k b hb
  rw [← Nat.zero_add (head.length + k), Memory.read_ofBytes, List.getElem?_append_right (Nat.le_add_right _ _),
    Nat.add_sub_cancel_left, hb]

theorem Memory.Holds.bytesAt {m : Memory} {a : Nat} {bs : List Byte} (h : m.Holds a bs) :
    m.bytesAt a bs.length = bs := by
  refine List.ext_getElem (by simp [Memory.bytesAt]) fun k _ hk => ?_
  simp [Memory.bytesAt, h k bs[k] (List.getElem?_eq_getElem hk)]

theorem Memory.Holds.field {m : Memory} {a : Nat} {bs : List Byte} (h : m.Holds a bs) :
    m.field (8 * a) (8 * bs.length) = lsbValue (bytesBits bs) := by
  rw [← length_bytesBits]
  exact (Memory.shows_bytes h).field

/-! ## Block by block -/

/-- What a call has to do with besides the reader, the decoder and where it stands. -/
def State.besideDecoder (s : State) : State :=
  { s with
    br := State.reset.br, dec := State.reset.dec, sdec := { s.sdec with state := .initialized }, seq := .idle }

/-- The call that began in `s0` stands before an element of kind `ph`, `a` whole bytes and `ahead` bits into its input;
the bytes `bs` are to come from byte `a` on, and O is `out`. -/
structure Copying (s0 : State) (ph : Phase) (a ahead : Nat) (out bs : List Byte) (s : State) : Prop where
  seq     : s.seq = .decode .stream ph
  frame   : s.besideDecoder = s0.besideDecoder
  reading : s.Reading
  pos     : s.br.pos = 8 * a + ahead
  bytes   : s.inMem.Holds a bs
  room    : a + bs.length ≤ s.br.inputLength
  out     : s.dec.out = out

section
variable {s0 s : State} {ph : Phase} {a ahead : Nat} {out data rest : List Byte} {final : Bool}

theorem Copying.avail {bs : List Byte} (h : Copying s0 ph a ahead out bs s) : 8 * bs.length - ahead ≤ s.avail := by
  have := h.room
  rw [State.avail, h.pos]; omega

/-- The header bits of a stored block. -/
theorem Copying.header (h : Copying s0 .blkHdr a 0 out ((if final then 0x01 else 0x00) :: rest) s) :
    ∃ t, Turns s t ∧ Copying s0 .stored a 3 out ((if final then 0x01 else 0x00) :: rest) t ∧ t.dec.bfinal = final := by
  have avail := h.avail
  rw [List.length_cons] at avail
  obtain ⟨u, fetched, reading, pos, length, frame⟩ := fetches_blkHdr h.reading h.seq (by omega)
  have inMem : u.inMem = s.inMem := (congrArg State.inMem frame :)
  have seq : u.seq = .decode .stream .blkHdr := (congrArg State.seq frame).trans h.seq
  have beside : u.besideDecoder = s.besideDecoder := (congrArg State.besideDecoder frame :)
  have first : s.inMem.field (8 * a) 8 = lsbValue (bytesBits [if final then 0x01 else 0x00]) :=
    (Memory.holds_append (bs := [if final then 0x01 else 0x00]) h.bytes).1.field
  have low := s.inMem.field_mod (8 * a) (a := 3) (n := 8) (by decide)
  rw [first] at low
  rw [h.pos, Nat.add_zero, ← low] at fetched
  obtain ⟨stored, -⟩ := blockHeadersSelectTheBlock u .stream .blkHdr final seq
  refine ⟨_, .of_fetched (busy_of_decode h.seq) fetched (i := .blockStored final) (by cases final <;> rfl) stored,
    ⟨rfl, beside.trans h.frame, reading.of_fields rfl rfl rfl, ?_, ?_, ?_, ?_⟩, rfl⟩
  · exact pos.trans (by rw [h.pos])
  · exact inMem ▸ h.bytes
  · exact length ▸ h.room
  · exact (congrArg (fun v => v.dec.out) frame).trans h.out

/-- The lengths and bytes of a stored block, up to its end. -/
theorem Copying.body {x : Byte} (h : Copying s0 .stored a 3 out (x :: (storedLengths data.length ++ data ++ rest)) s)
    (size : data.length ≤ 65535) (adm : ∀ m, s.params.maxOutputBytes = some m → out.length + data.length ≤ m) :
    ∃ u, Turns s (endBlock u) ∧ Copying s0 .stored (a + (5 + data.length)) 0 (out ++ data) rest u ∧
      u.dec.bfinal = s.dec.bfinal := by
  have four : (storedLengths data.length).length = 4 := rfl
  have avail := h.avail
  have room := h.room
  simp only [List.length_cons, List.length_append, four] at avail room
  have pad : s.br.pad = 5 := by rw [Reader.pad, h.pos]; omega
  obtain ⟨u, fetched, reading, pos, length, frame⟩ := fetches_stored h.reading h.seq (by omega)
  have inMem : u.inMem = s.inMem := (congrArg State.inMem frame :)
  have seq : u.seq = .decode .stream .stored := (congrArg State.seq frame).trans h.seq
  have beside : u.besideDecoder = s.besideDecoder := (congrArg State.besideDecoder frame :)
  have out : u.dec.out = s.dec.out := (congrArg (fun v => v.dec.out) frame :)
  obtain ⟨headed, later⟩ := Memory.holds_append (bs := x :: storedLengths data.length ++ data) (cs := rest) h.bytes
  obtain ⟨headed, bytes⟩ := Memory.holds_append (bs := x :: storedLengths data.length) headed
  obtain ⟨-, lengths⟩ := Memory.holds_append (bs := [x]) (cs := storedLengths data.length) headed
  have word := lengths.field
  rw [lsbValue_storedLengths size, four] at word
  rw [h.pos, pad, show 8 * a + 3 + 5 = 8 * (a + [x].length) by simp; omega, word] at fetched
  obtain ⟨len, nlen, decoded, hlen, agree⟩ := decodeStored_lengths size
  let begun := u.storedBegun .stream len.toNat
  have position : begun.br.pos = 8 * (a + 5) := by change u.br.pos = _; rw [pos, h.pos, pad]; omega
  obtain ⟨v, body, copied, -, consumed⟩ := storedBody_copies (s := begun) seq (reading.of_fields rfl rfl rfl) (by omega)
    (by
      change 8 * len.toNat ≤ 8 * u.br.inputLength - begun.br.pos
      rw [position, length, hlen]; omega)
    (.inr fun m hm => by
      change u.dec.out.length + len.toNat ≤ m
      rw [out, h.out, hlen]
      exact adm m ((congrArg (fun v => v.params.maxOutputBytes) frame).symm.trans hm))
  obtain ⟨reading', pos', length', -, -⟩ := consumed
  have copies : begun.inMem.bytesAt (begun.br.pos / 8) len.toNat = data := by
    have index : begun.br.pos / 8 = a + (x :: storedLengths data.length).length := by
      rw [position, List.length_cons, four]; omega
    rw [index, hlen]
    exact (inMem ▸ bytes).bytesAt
  change begun.inMem.bytesAt (begun.br.pos / 8) begun.dec.blockLen = data at copies
  rw [copies] at copied pos'
  refine ⟨v, .of_fetched (busy_of_decode h.seq) fetched decoded ?_, ⟨?_, ?_, reading', ?_, ?_, ?_, ?_⟩, ?_⟩
  · exact (exec_storedHdr seq agree).trans (congrArg conclude body)
  · exact (congrArg State.seq copied).trans seq
  · exact (congrArg State.besideDecoder copied).trans (beside.trans h.frame)
  · rw [pos', position]; omega
  · have memory : v.inMem = s.inMem := (congrArg State.inMem copied).trans inMem
    rw [memory]
    have index : a + (x :: storedLengths data.length ++ data).length = a + (5 + data.length) := by
      rw [List.length_append, List.length_cons, four]
    exact index ▸ later
  · have same : v.br.inputLength = s.br.inputLength := length'.trans length
    omega
  · rw [copied]
    change u.dec.out ++ data = _
    rw [out, h.out]
  · exact (congrArg (fun v => v.dec.bfinal) copied).trans (congrArg (fun v => v.dec.bfinal) frame :)

/-- A stored block that is not the last. -/
theorem Copying.endBlock_more (h : Copying s0 ph a 0 out rest s) (more : s.dec.bfinal = false) :
    Copying s0 .blkHdr a 0 out rest (endBlock s) := by
  rw [Machine.endBlock_more h.seq more]
  exact ⟨rfl, h.frame, h.reading.of_fields rfl rfl rfl, h.pos, h.bytes, h.room, h.out⟩

/-- The stream that the call began in `s0` is over: `out` is O, the reader stands at byte `a`. -/
structure Copied (s0 : State) (a : Nat) (out : List Byte) (t : State) : Prop where
  frame : t = { s0 with
                br := t.br, dec := t.dec, sdec := { s0.sdec with state := .decodeBlockEnd, sp := out.length }
                status := { s0.status with done := true }, result := .bytes (out.drop s0.sdec.sp), seq := .idle }
  out   : t.dec.out = out
  pos   : t.br.pos = 8 * a

theorem Copying.endBlock_last (h : Copying s0 ph a 0 out rest s) (last : s.dec.bfinal = true) :
    Copied s0 a out (endBlock s) := by
  rw [endBlock_stream h.seq last]
  refine ⟨?_, h.out, h.pos⟩
  rw [Dec.op, h.out]
  exact (congrArg (fun v : State =>
    { v with
      br := s.br, dec := s.dec, sdec := { v.sdec with state := .decodeBlockEnd, sp := out.length }
      status := { v.status with done := true }, result := .bytes (out.drop v.sdec.sp), seq := .idle }) h.frame :)

/-- A stored stream, block by block (R232, R263, R264). -/
theorem Copying.stream {blocks : Nat} (h : Copying s0 .blkHdr a 0 out (storedStream blocks data ++ rest) s)
    (pos : 0 < blocks) (enough : data.length ≤ 65535 * blocks)
    (adm : ∀ m, s0.params.maxOutputBytes = some m → out.length + data.length ≤ m) :
    Reaches (Copied s0 (a + (storedStream blocks data).length) (out ++ data)) s := by
  induction blocks generalizing a out data s with
  | zero => exact absurd pos (Nat.lt_irrefl 0)
  | succ blocks ih =>
    have four (n : Nat) : (storedLengths n).length = 4 := rfl
    have params {t : State} {ph : Phase} {a ahead : Nat} {out bs : List Byte} (h : Copying s0 ph a ahead out bs t) :
      t.params = s0.params := (congrArg State.params h.frame :)
    rw [storedStream] at h ⊢
    split at h
    next last =>
      rw [if_pos last]
      obtain ⟨t, first, ht, final⟩ := h.header (final := true)
      obtain ⟨u, second, hu, same⟩ := ht.body last (by rwa [params ht])
      have size : (0x01 :: (storedLengths data.length ++ data)).length = 5 + data.length := by
        rw [List.length_cons, List.length_append, four]; omega
      exact .turn first (.turn second (.of_holds (size ▸ hu.endBlock_last (same.trans final))))
    next more =>
      rw [if_neg more]
      obtain ⟨head, tail, rfl, size⟩ : ∃ head tail, data = head ++ tail ∧ head.length = 65535 :=
        ⟨data.take 65535, data.drop 65535, (List.take_append_drop ..).symm, by rw [List.length_take]; omega⟩
      rw [← size, List.take_left, List.drop_left] at h ⊢
      rw [List.length_append] at enough adm more
      obtain ⟨t, first, ht, final⟩ := h.header (final := false)
      replace ht : Copying s0 .stored a 3 out
          (0x00 :: (storedLengths head.length ++ head ++ (storedStream blocks tail ++ rest))) t := by
        rw [← List.append_assoc]; exact ht
      obtain ⟨u, second, hu, same⟩ := ht.body size.le fun m hm => by
        have := adm m (params ht ▸ hm)
        omega
      have rest := ih (hu.endBlock_more (same.trans final)) (by omega) (by omega) fun m hm => by
        have := adm m hm
        rw [List.length_append]; omega
      have whole : a + (5 + head.length) + (storedStream blocks tail).length =
          a + (0x00 :: (storedLengths head.length ++ head ++ storedStream blocks tail)).length := by
        rw [List.length_cons, List.length_append, List.length_append, four]; omega
      rw [whole, List.append_assoc out] at rest
      exact .turn first (.turn second rest)

end
end Sys2Proof.Machine
end

section
/-! PROOFS. SDEC.CALL on a stream's first call and after its end (R302, R312, R313). -/

namespace Sys2Proof.Machine

section
variable {s : State} {chunk : Option (List Byte)} {off : Option Nat} {ip : Nat}

/-- Once the stream has started, the start offset does not count (R302). -/
theorem exec_sdecCall_started (started : s.sdec.started = true) (chunk : Option (List Byte)) (off : Option Nat) :
    exec (.sdecCall chunk off) s = exec (.sdecCall chunk none) s := by
  have begun (off : Option Nat) : firstCall off (appendChunk chunk (beginCommand false s)) =
      .ok (appendChunk chunk (beginCommand false s)) := by
    cases chunk <;> exact if_pos started
  have same : streamCall chunk off (beginCommand false s) = streamCall chunk none (beginCommand false s) := by
    simp only [streamCall, withInput, begun]
  cases fault : s.status.fault with
  | some f => rw [exec, exec, execSdecCall, execSdecCall, framed, framed, fault]
  | none => rw [exec, exec, execSdecCall, execSdecCall, framed_runs fault, framed_runs fault, same]

/-- What the first call finds of a stream: its chunk. -/
theorem State.FreshStream.appended (h : s.FreshStream) (chunk : Option (List Byte)) :
    let u := appendChunk chunk (beginCommand false s)
    u.sdec.started = false ∧ u.br.ip = 0 ∧ u.br.inputLength = (chunk.getD []).length := by
  obtain ⟨-, -, -, sdec, -, ⟨ip, -, -, length⟩, -⟩ := h
  cases chunk with
  | none => exact ⟨congrArg Sdec.started sdec, ip, length⟩
  | some bs => exact ⟨congrArg Sdec.started sdec, ip, (congrArg (· + bs.length) length).trans (Nat.zero_add _)⟩

theorem State.FreshStream.firstCall (h : s.FreshStream)
    (offset : (off = none ∧ ip = 0) ∨ (off = some ip ∧ ip ≤ (chunk.getD []).length)) :
    Machine.firstCall off (appendChunk chunk (beginCommand false s)) = .ok (s.callBegun chunk ip) := by
  obtain ⟨started, ip0, length⟩ := h.appended chunk
  unfold Machine.firstCall
  rw [if_neg (by simp [started])]
  rcases offset with ⟨rfl, rfl⟩ | ⟨rfl, inside⟩
  · simp only [State.callBegun, ← ip0]
  · exact if_neg (by rw [length]; omega)

/-- The first call of a stream, on the chunk alone, from the offset on. -/
theorem State.FreshStream.exec_sdecCall (h : s.FreshStream)
    (offset : (off = none ∧ ip = 0) ∨ (off = some ip ∧ ip ≤ (chunk.getD []).length)) :
    exec (.sdecCall chunk off) s = settle (streamAt .blkHdr (s.callBegun chunk ip)) := by
  have first := h.firstCall offset
  obtain ⟨-, fault, done, sdec, ⟨-, kept⟩, ⟨-, -, -, length⟩, -⟩ := h
  have state : (s.callBegun chunk ip).sdec.state = .initialized := by
    cases chunk <;> exact congrArg Sdec.state sdec
  have dispatched : dispatch (s.callBegun chunk ip) = .ok (streamAt .blkHdr (s.callBegun chunk ip)) := by
    simp only [dispatch, state]
  rw [exec_sdecCall_begun fault done ⟨kept, by simp [length]⟩ first, dispatched]
  rfl

/-- An offset beyond the input is E_API (R302). -/
theorem State.FreshStream.raises (h : s.FreshStream) {off : Nat} (beyond : off > (chunk.getD []).length) :
    Raises (.sdecCall chunk (some off)) .eApi off s := by
  obtain ⟨started, -, length⟩ := h.appended chunk
  obtain ⟨-, fault, done, sdec, ⟨-, kept⟩, ⟨-, -, -, none⟩, -⟩ := h
  let u := appendChunk chunk (beginCommand false s)
  have first : Machine.firstCall (some off) u =
      .error (raise .eApi off { u with sdec := { u.sdec with started := true } }) := by
    unfold Machine.firstCall
    rw [if_neg (by simp [u, started])]
    exact if_pos (by rw [length]; exact beyond)
  exact .of_exec (exec_sdecCall_raises fault done ⟨kept, by simp [none]⟩ first) (by cases chunk <;> rfl)

/-- Without input the first try is suspended at once (R304). -/
theorem State.FreshStream.waits (h : s.FreshStream) (grain : s.grain = .command) :
    ∃ t, exec (.sdecCall none none) s = .next t ∧ t.result = .bytes [] ∧ t.status.needInput = true ∧
      t.status.done = false ∧ t.br.pos = 0 ∧ t.dec.out = [] := by
  rw [h.exec_sdecCall (.inl ⟨rfl, rfl⟩)]
  obtain ⟨-, -, done, sdec, -, ⟨-, -, acclen, length⟩, ⟨out, -⟩⟩ := h
  let u := (streamAt .blkHdr (s.callBegun none 0)).tried .blkHdr
  have empty : readBits 1 u = .error (suspend u) := by
    have refill : u.br.refill u.inMem 1 1 = u.br := if_neg fun c => by
      have : 0 < s.br.inputLength := c.2
      omega
    have short : u.br.acclen < 1 := by change s.br.acclen < 1; omega
    unfold readBits
    dsimp only
    rw [refill, if_pos short, ← exhausted_of_stream (s := u) rfl]
  have fetched : fetchElement (streamAt .blkHdr (s.callBegun none 0)) = .error (suspend u) := by
    have fields : fetchAt .blkHdr u = .error (suspend u) := by
      rw [fetchAt, fetchFields_eq, empty]
      rfl
    exact (fetchElement_of_stream rfl).trans fields
  have turns : Turns (streamAt .blkHdr (s.callBegun none 0)) (suspend u) :=
    ⟨Seq.noConfusion, by rw [turn, fetched]⟩
  obtain ⟨t, settled, rfl⟩ := settle_of_reaches (P := (· = suspend u)) (s := streamAt .blkHdr (s.callBegun none 0))
    grain (.turn turns (.of_holds ⟨rfl, rfl⟩))
  have nothing : (suspend u).result = .bytes (s.dec.out.drop s.sdec.sp) := rfl
  have start : (suspend u).br.pos = 8 * 0 - s.br.acclen := rfl
  exact ⟨_, settled, by rw [nothing, out, List.drop_nil], rfl, done, by rw [start]; omega, out⟩

theorem State.FreshStream.input_callBegun (h : s.FreshStream) (bs : List Byte) (ip : Nat) :
    (s.callBegun (some bs) ip).inMem = Memory.ofBytes 0 bs := by
  obtain ⟨-, -, -, -, ⟨input, -⟩, ⟨-, -, -, length⟩, -⟩ := h
  have appended := appendChunk_ofBytes (s := beginCommand false s) (bytes := []) input length.le bs
  rw [List.take_nil, List.nil_append] at appended
  exact appended

/-- The first call on a chunk stands before the bytes behind its offset. -/
theorem State.FreshStream.copying (h : s.FreshStream) (head rest : List Byte) :
    let s0 := s.callBegun (some (head ++ rest)) head.length
    Copying s0 .blkHdr head.length 0 [] rest (streamAt .blkHdr s0) := by
  have inMem := h.input_callBegun (head ++ rest) head.length
  obtain ⟨-, -, -, -, ⟨input, kept⟩, ⟨-, acc, acclen, length⟩, ⟨out, -⟩⟩ := h
  have supplied := s.callBegun_supplied (bytes := []) ⟨kept, by rw [length]; exact Nat.zero_le _⟩ input
    (some (head ++ rest)) head.length
  obtain ⟨⟨kept', inside⟩, bytes⟩ := supplied
  have size : (s.callBegun (some (head ++ rest)) head.length).br.inputLength = head.length + rest.length := by
    change s.br.inputLength + (head ++ rest).length = _
    rw [length, List.length_append, Nat.zero_add]
  have reading : (streamAt .blkHdr (s.callBegun (some (head ++ rest)) head.length)).Reading := by
    refine ⟨kept', inside, bytes, (Nat.le_add_right _ _).trans size.ge, ?_, ?_, ?_⟩
    · change s.br.acclen ≤ _; omega
    · change s.br.acclen ≤ _; omega
    · change s.br.acc = Memory.field _ _ s.br.acclen
      rw [acc, acclen]; rfl
  refine ⟨rfl, rfl, reading, ?_, ?_, size.ge, out⟩
  · change 8 * head.length - s.br.acclen = _
    omega
  · exact inMem ▸ Memory.holds_ofBytes head rest

/-- One call on a whole stored stream (R232, R302, R310). -/
theorem State.FreshStream.returns (h : s.FreshStream) (grain : s.grain = .command) {head data tail : List Byte}
    (adm : ∀ m, s.params.maxOutputBytes = some m → data.length ≤ m)
    (offset : (off = none ∧ head = []) ∨ off = some head.length) :
    ∃ t, exec (.sdecCall (some (head ++ stored data ++ tail)) off) s = .next t ∧
      t.sdec = { state := .decodeBlockEnd, sp := data.length, started := true } ∧
      t.bytesConsumed = head.length + (stored data).length ∧
      t = { s with
            inMem := Memory.ofBytes 0 (head ++ stored data ++ tail), br := t.br, dec := t.dec, sdec := t.sdec
            status := { s.status with done := true, needInput := false }, result := .bytes data } := by
  rw [List.append_assoc]
  have inside : head.length ≤ (head ++ (stored data ++ tail)).length := by rw [List.length_append]; omega
  rw [h.exec_sdecCall (chunk := some (head ++ (stored data ++ tail))) (ip := head.length)
    (offset.imp (by rintro ⟨rfl, rfl⟩; exact ⟨rfl, rfl⟩) fun e => ⟨e, inside⟩)]
  have run := (h.copying head (stored data ++ tail)).stream (blocks := max 1 ((data.length + 65534) / 65535))
    (by omega) (by omega) (by rw [List.length_nil, Nat.zero_add]; exact adm)
  obtain ⟨t, settled, frame, -, pos⟩ := settle_of_reaches
    (s := streamAt .blkHdr (s.callBegun (some (head ++ (stored data ++ tail))) head.length)) grain
    (run.imp fun t ⟨path, ht⟩ => ⟨path, (congrArg State.seq ht.frame :), ht⟩)
  have inMem := h.input_callBegun (head ++ (stored data ++ tail)) head.length
  obtain ⟨idle, -, -, fresh, -⟩ := h
  have sdec : t.sdec = { state := .decodeBlockEnd, sp := data.length, started := true } := congrArg State.sdec frame
  have result : Result.bytes (([] ++ data).drop s.sdec.sp) = .bytes data := by rw [fresh]; rfl
  refine ⟨t, settled, sdec, ?_, ?_⟩
  · rw [State.bytesConsumed, pos]
    change (8 * (head.length + (stored data).length) + 7) / 8 = _
    omega
  · rw [sdec, ← inMem, ← result]
    refine frame.trans ?_
    rw [← idle]
    rfl

end

/-- Settles O55: the first call, a call after the end, and what the offset is to either. -/
theorem sdecCallReturnsAStoredStream : Obligations.SdecCallReturnsAStoredStream :=
  ⟨fun _ _ _ _ _ h grain adm offset => h.returns grain adm offset,
    fun _ chunk off fault done => exec_sdecCall_done fault done chunk off, fun _ h grain => h.waits grain,
    fun _ _ _ h beyond => h.raises beyond, fun _ chunk off started => exec_sdecCall_started started chunk off⟩

end Sys2Proof.Machine
end

section
/-! PROOFS. Turns in pace: the grain of a step (R390) and the entry of a fault (R332). No operation looks at the grain
but `settle`, and none takes a fault but by `raise`. Both are read off each operation at once: it is run in a state
without a fault and in the same state with turn grain, and both go on without one or both end the command alike. -/

namespace Sys2Proof.Machine

/-! ## The same state with turn grain -/

/-- The same state, where a command takes its turns as steps of their own. -/
def State.inTurns (s : State) : State := { s with grain := .turn }

theorem inTurns_withGrain {s : State} (h : s.grain = .turn) (g : Grain) : s = State.inTurns { s with grain := g } := by
  cases s; cases h; rfl

/-- If a fault is recorded, it is as R332 records it. -/
def State.FaultEntry (s : State) : Prop := ∀ f, s.status.fault = some f →
  s.status.done = false ∧ s.status.needInput = false ∧ s.result = .failed f s.status.faultInfo ∧ s.seq = .idle

theorem State.FaultEntry.of_clear {s : State} (h : s.status.fault = none) : s.FaultEntry := by
  intro f hf; rw [h] at hf; cases hf

/-- No fault is recorded, and the second state is the first with turn grain. -/
structure Paced (s t : State) : Prop where
  same  : t = s.inTurns
  clear : s.status.fault = none

/-- The command has ended in both, and a fault it may have taken is entered as R332 says. -/
structure PacedEnd (s t : State) : Prop where
  same  : t = s.inTurns
  idle  : s.seq = .idle
  entry : s.FaultEntry

/-- Where an operation of a command can lead: it goes on, or the command has ended. -/
def PacedOn (s t : State) : Prop := Paced s t ∨ PacedEnd s t

/-- The same value is read with either grain. -/
def PacedRead {α : Type} (x y : α × State) : Prop := y.1 = x.1 ∧ Paced x.2 y.2

/-- An operation with either grain: both go on with values of which `G` holds, or both end the command. -/
inductive InPace {α : Type} (G : α → α → Prop) : Act α → Act α → Prop
  | goes {x y : α} (h : G x y) : InPace G (.ok x) (.ok y)
  | ends {s t : State} (h : PacedEnd s t) : InPace G (.error s) (.error t)

/-- The same for a turn. -/
inductive TurnInPace : Outcome → Outcome → Prop
  | mk {s t : State} (h : PacedOn s t) : TurnInPace (.next s) (.next t)

theorem TurnInPace.goes {s t : State} (h : Paced s t) : TurnInPace (.next s) (.next t) := .mk (.inl h)

theorem TurnInPace.ends {s t : State} (h : PacedEnd s t) : TurnInPace (.next s) (.next t) := .mk (.inr h)

namespace InPace
variable {α β : Type} {G : α → α → Prop} {H : β → β → Prop} {a b : Act α}

theorem bind {f g : α → Act β} (h : InPace G a b) (next : ∀ x y, G x y → InPace H (f x) (g y)) :
    InPace H (a.bind f) (b.bind g) := by
  cases h with
  | goes h => exact next _ _ h
  | ends h => exact .ends h

theorem bindRead {a b : Act (α × State)} {f g : α × State → Act β} (h : InPace PacedRead a b)
    (next : ∀ {s t : State} (x : α), Paced s t → InPace H (f (x, s)) (g (x, t))) :
    InPace H (a.bind f) (b.bind g) := by
  refine h.bind ?_
  rintro ⟨_, s⟩ ⟨x, t⟩ ⟨rfl, h⟩
  exact next x h

theorem map {f g : α → β} (h : InPace G a b) (next : ∀ x y, G x y → H (f x) (g y)) :
    InPace H (a.map f) (b.map g) := by
  cases h with
  | goes h => exact .goes (next _ _ h)
  | ends h => exact .ends h

theorem mapRead {a b : Act (α × State)} {f g : α × State → β} (h : InPace PacedRead a b)
    (next : ∀ {s t : State} (x : α), Paced s t → H (f (x, s)) (g (x, t))) : InPace H (a.map f) (b.map g) := by
  refine h.map ?_
  rintro ⟨_, s⟩ ⟨x, t⟩ ⟨rfl, h⟩
  exact next x h

/-- The two ways a pair of reads can answer. -/
theorem read_cases {a b : Act (α × State)} (h : InPace PacedRead a b) :
    (∃ x s t, a = .ok (x, s) ∧ b = .ok (x, t) ∧ Paced s t) ∨
      ∃ s t, a = .error s ∧ b = .error t ∧ PacedEnd s t := by
  cases h with
  | @goes x y h =>
    obtain ⟨x, s⟩ := x
    obtain ⟨_, t⟩ := y
    obtain ⟨rfl, h⟩ := h
    exact .inl ⟨_, s, t, rfl, rfl, h⟩
  | ends h => exact .inr ⟨_, _, rfl, rfl, h⟩

/-- An operation and the rest, as the model writes it. -/
theorem andThen {a b : Act State} {f g : State → Act α} (h : InPace Paced a b)
    (next : ∀ {s t}, Paced s t → InPace G (f s) (g t)) :
    InPace G (match (generalizing := false) a with | .error t => .error t | .ok u => f u)
      (match (generalizing := false) b with | .error t => .error t | .ok u => g u) := by
  cases h with
  | goes h => exact next h
  | ends h => exact .ends h

/-- Both take the same branch. -/
theorem ite {c : Prop} [Decidable c] {a' b' : Act α} (h : c → InPace G a b) (h' : ¬c → InPace G a' b') :
    InPace G (if c then a else a') (if c then b else b') := by
  split
  next hc => exact h hc
  next hc => exact h' hc

theorem conclude {a b : Act State} (h : InPace PacedOn a b) :
    TurnInPace (Machine.conclude a) (Machine.conclude b) := by
  cases h with
  | goes h => exact .mk h
  | ends h => exact .mk (.inr h)

theorem on {a b : Act State} (h : InPace Paced a b) : InPace PacedOn a b := by
  cases h with
  | goes h => exact .goes (.inl h)
  | ends h => exact .ends h

end InPace

/-! ## Matches on the sequencer -/

theorem goto_inTurns (ph : Phase) (s : State) : s.inTurns.goto ph = (s.goto ph).inTurns := by
  unfold State.goto
  dsimp only [State.inTurns]
  split <;> rfl

theorem streamState_inTurns (x : SdecState) (s : State) : s.inTurns.streamState x = (s.streamState x).inTurns := by
  unfold State.streamState
  dsimp only [State.inTurns]
  split <;> rfl

theorem tryStart_inTurns (s : State) : tryStart s.inTurns = (tryStart s).inTurns := by
  unfold tryStart
  dsimp only [State.inTurns]
  split <;> rfl

theorem flushBlocks_inTurns (s : State) : flushBlocks s.inTurns = (flushBlocks s).inTurns := by
  have seq : s.inTurns.seq = s.seq := rfl
  unfold flushBlocks
  rw [seq]
  split
  · dsimp only
    rw [apply_ite State.inTurns]; rfl
  · rfl

theorem decodeResult_inTurns (s : State) : decodeResult s.inTurns = decodeResult s := by
  unfold decodeResult
  dsimp only [State.inTurns]

/-! ## Operations as a first part and the rest -/

theorem copyStored_eq (n : Nat) (s : State) :
    copyStored (n + 1) s =
      if 8 * s.br.inputLength - s.br.pos < 8 ∧ s.job = some .stream then .error (needInput s)
      else (readBits 8 (flushBlocks s)).bind fun x =>
        (emit (BitVec.ofNat 8 x.1) x.2).bind fun s => copyStored n { s with dec := { s.dec with blockLen := n } } := by
  rw [copyStored]
  rcases readBits 8 (flushBlocks s) with _ | ⟨v, s⟩
  · rfl
  · dsimp only [Except.bind]; cases emit _ s <;> rfl

theorem runTurns_succ {s : State} (busy : s.seq ≠ .idle) (fuel : Nat) :
    runTurns (fuel + 1) s = match turn s with | .next u => runTurns fuel u | o => o := by
  rw [runTurns]
  split
  next idle => exact absurd idle busy
  next => rfl

theorem execTMatch_eq (lc : BitVec 8) (le lv dc de dv : Slot) (s : State) :
    execTMatch lc le lv dc de dv s = conclude ((packSymbol (256 + lc.toNat) s).bind
      (packMatch (256 + lc.toNat) le.toNat lv.toNat dc.toNat de.toNat dv.toNat)) := by
  rw [execTMatch]
  cases packSymbol (256 + lc.toNat) s <;> rfl

/-- The entry found is looked at through the sequencer only. -/
theorem execDte_eq (cl sym : BitVec 16) (s : State) : ∃ index maxLen, ∀ u : State, u.seq = s.seq →
    execDte cl sym u =
      conclude ((consumeEntry index maxLen cl.toNat sym.toNat u).map fun x => answer (.symbol x.1) x.2) := by
  cases hs : s.seq with
  | lookup index maxLen _ =>
    refine ⟨index, maxLen, fun u hu => ?_⟩
    rw [execDte, hu]
    dsimp only
    rcases consumeEntry index maxLen cl.toNat sym.toNat u with _ | ⟨_, _⟩ <;> rfl
  | _ =>
    refine ⟨0, 0, fun u hu => ?_⟩
    rw [execDte, hu]
    dsimp only
    rcases consumeEntry 0 0 cl.toNat sym.toNat u with _ | ⟨_, _⟩ <;> rfl

section
variable {s t : State}

namespace Paced

/-- What does not look at the grain sees no difference. -/
theorem eq {β : Type} (h : Paced s t) (f : State → β) (blind : ∀ u, f u.inTurns = f u) : f t = f s := by
  rw [h.same, blind]

/-- A change that looks neither at the grain nor at the fault recorded. -/
theorem update (h : Paced s t) (f : State → State)
    (blind : ∀ u : State, f u.inTurns = (f u).inTurns ∧ (f u).status.fault = u.status.fault) : Paced (f s) (f t) :=
  ⟨by rw [h.same, (blind s).1], by rw [(blind s).2, h.clear]⟩

theorem dec (h : Paced s t) (f : Dec → Dec) : Paced { s with dec := f s.dec } { t with dec := f t.dec } :=
  h.update (fun u => { u with dec := f u.dec }) fun _ => ⟨rfl, rfl⟩

theorem br (h : Paced s t) (f : Reader → Reader) : Paced { s with br := f s.br } { t with br := f t.br } :=
  h.update (fun u => { u with br := f u.br }) fun _ => ⟨rfl, rfl⟩

theorem seq (h : Paced s t) (q : Seq) : Paced { s with seq := q } { t with seq := q } :=
  h.update (fun u => { u with seq := q }) fun _ => ⟨rfl, rfl⟩

theorem goto (h : Paced s t) (ph : Phase) : Paced (s.goto ph) (t.goto ph) :=
  h.update (·.goto ph) fun u => ⟨goto_inTurns ph u, by rw [goto_status]⟩

theorem streamState (h : Paced s t) (x : SdecState) : Paced (s.streamState x) (t.streamState x) :=
  h.update (·.streamState x) fun u => ⟨streamState_inTurns x u, by rw [streamState_status]⟩

theorem tryStart (h : Paced s t) : Paced (Machine.tryStart s) (Machine.tryStart t) :=
  h.update _ fun u => ⟨tryStart_inTurns u, by rw [tryStart_status]⟩

theorem flushBlocks (h : Paced s t) : Paced (Machine.flushBlocks s) (Machine.flushBlocks t) :=
  h.update _ fun u => ⟨flushBlocks_inTurns u, by rw [flushBlocks_status]⟩

theorem raise (h : Paced s t) (f : FaultCode) (info : Nat) :
    PacedEnd (Machine.raise f info s) (Machine.raise f info t) :=
  ⟨by rw [h.same]; rfl, rfl, by rintro _ ⟨⟩; exact ⟨rfl, rfl, rfl, rfl⟩⟩

/-- The command ends without a fault. -/
theorem ended (h : Paced s t) (f : State → State)
    (blind : ∀ u : State, f u.inTurns = (f u).inTurns ∧ (f u).seq = .idle ∧ (f u).status.fault = u.status.fault) :
    PacedEnd (f s) (f t) := by
  obtain ⟨same, idle, fault⟩ := blind s
  exact ⟨by rw [h.same, same], idle, .of_clear (fault.trans h.clear)⟩

theorem answer (h : Paced s t) (r : Result) : PacedEnd (Machine.answer r s) (Machine.answer r t) :=
  h.ended (Machine.answer r) fun _ => ⟨rfl, rfl, rfl⟩

/-- Whoever asked for the missing bits (R148, R338, R341). -/
theorem exhausted (h : Paced s t) : PacedEnd (Machine.exhausted s) (Machine.exhausted t) := by
  unfold Machine.exhausted
  rw [h.eq State.seq fun _ => rfl]
  split
  · exact h.ended suspend fun _ => ⟨rfl, rfl, rfl⟩
  · cases h.same
    exact h.raise _ _
  · exact h.ended (fun u =>
      { u with status := { u.status with needInput := true }, result := .exhausted, seq := .idle })
      fun _ => ⟨rfl, rfl, rfl⟩

/-! ### The reader -/

theorem readBits (h : Paced s t) (n : Nat) : InPace PacedRead (Machine.readBits n s) (Machine.readBits n t) := by
  cases h.same
  have loaded := h.br (·.refill s.inMem n n)
  exact .ite (fun _ => .ends loaded.exhausted) fun _ => .goes ⟨rfl, rfl, h.clear⟩

theorem consumeEntry (h : Paced s t) (index maxLen cl sym : Nat) :
    InPace PacedRead (Machine.consumeEntry index maxLen cl sym s) (Machine.consumeEntry index maxLen cl sym t) := by
  cases h.same
  refine .ite (fun _ => .ite (fun _ => .ends h.exhausted) fun _ => .ends (h.raise _ _)) fun _ => ?_
  exact .ite (fun _ => .ends h.exhausted) fun _ => .goes ⟨rfl, rfl, h.clear⟩

theorem readSymbol (h : Paced s t) (tb : DecodeTable) :
    InPace PacedRead (Machine.readSymbol tb s) (Machine.readSymbol tb t) := by
  cases h.same
  exact (h.br (·.refill s.inMem tb.maxLen tb.maxLen)).consumeEntry ..

theorem readClLengths (h : Paced s t) (order lens : List Nat) :
    InPace PacedRead (Machine.readClLengths order lens s) (Machine.readClLengths order lens t) := by
  induction order generalizing lens s t with
  | nil => exact .goes ⟨rfl, h⟩
  | cons sym order ih =>
    rw [readClLengths_cons, readClLengths_cons]
    exact (h.readBits 3).bindRead fun _ h => ih h _

/-! ### The output -/

theorem emit (h : Paced s t) (b : Byte) : InPace Paced (Machine.emit b s) (Machine.emit b t) := by
  cases h.same
  exact .ite (fun _ => .ends (h.raise _ _)) fun _ => .goes ⟨rfl, h.clear⟩

theorem copyMatch (h : Paced s t) (distance n : Nat) :
    InPace Paced (Machine.copyMatch distance n s) (Machine.copyMatch distance n t) := by
  induction n generalizing s t with
  | zero => exact .goes h
  | succ n ih =>
    rw [copyMatch_succ, copyMatch_succ, h.eq State.dec fun _ => rfl]
    exact (h.emit _).bind fun _ _ h => ih h

theorem endBlock (h : Paced s t) : PacedOn (Machine.endBlock s) (Machine.endBlock t) := by
  have closed := h.streamState .decodeBlockEnd
  unfold Machine.endBlock
  dsimp only
  generalize s.streamState .decodeBlockEnd = u, t.streamState .decodeBlockEnd = v at closed
  rw [closed.eq (fun u => u.dec.bfinal) fun _ => rfl, closed.eq State.seq fun _ => rfl]
  split
  · split
    · exact .inr (closed.ended (fun u => deliver { u with status := { u.status with done := true } })
        fun _ => ⟨rfl, rfl, rfl⟩)
    · exact .inr (closed.ended (fun u => answerDone (decodeResult u) u)
        fun u => ⟨by rw [decodeResult_inTurns]; rfl, rfl, rfl⟩)
  · exact .inl ((closed.streamState .initialized).goto .blkHdr)

theorem copyStored (h : Paced s t) (n : Nat) :
    InPace Paced (Machine.copyStored n s) (Machine.copyStored n t) := by
  induction n generalizing s t with
  | zero => exact .goes h
  | succ n ih =>
    rw [copyStored_eq, copyStored_eq]
    have ready := h.flushBlocks
    cases h.same
    refine .ite (fun _ => .ends (h.ended needInput fun _ => ⟨rfl, rfl, rfl⟩)) fun _ => ?_
    refine (ready.readBits 8).bindRead fun _ h => (h.emit _).bind fun _ _ h => ?_
    exact ih (h.dec fun d => { d with blockLen := n })

theorem storedBody (h : Paced s t) : InPace PacedOn (Machine.storedBody s) (Machine.storedBody t) := by
  cases h.same
  exact .ite (fun _ => .ends (h.raise _ _)) fun _ => (h.copyStored _).map fun _ _ h => h.endBlock

theorem takeLength (h : Paced s t) (n : Nat) : Paced (Machine.takeLength n s) (Machine.takeLength n t) :=
  (h.dec fun d => { d with matchLen := n }).goto .dist

theorem takeDistance (h : Paced s t) (distance : Nat) :
    InPace Paced (Machine.takeDistance distance s) (Machine.takeDistance distance t) := by
  cases h.same
  exact .ite (fun _ => .ends (h.raise _ _)) fun _ => (h.copyMatch _ _).map fun _ _ h => h.goto .litLen

/-! ### Headers -/

theorem blockHeader (h : Paced s t) (final : Bool) (ty : BType) :
    Paced (Machine.blockHeader final ty s) (Machine.blockHeader final ty t) :=
  (h.dec fun d => { d with bfinal := final, btype := ty }).streamState .blockHeaderEnd

theorem useFixedTables (h : Paced s t) : Paced (Machine.useFixedTables s) (Machine.useFixedTables t) :=
  h.dec fun d => { d with ll := fixedLitLenTable, d := fixedDistTable }

theorem buildHeaderTable (h : Paced s t) (lengths : List Nat) :
    InPace PacedRead (Machine.buildHeaderTable lengths s) (Machine.buildHeaderTable lengths t) := by
  cases built : htbBuild lengths with
  | error sym =>
    rw [buildHeaderTable_full built, buildHeaderTable_full built]
    exact .ends (h.raise _ _)
  | ok x =>
    rw [buildHeaderTable_ok built, buildHeaderTable_ok built]
    exact .goes ⟨rfl, h.update (fun u => u.tableBuilt x.1 x.2) fun _ => ⟨rfl, rfl⟩⟩

theorem finishHeader (h : Paced s t) : InPace Paced (Machine.finishHeader s) (Machine.finishHeader t) := by
  rw [finishHeader_eq, finishHeader_eq, h.eq (fun u => u.dec.hdr) fun _ => rfl]
  refine (h.buildHeaderTable _).bindRead fun ll h => ?_
  dsimp only
  rw [h.eq (fun u => u.dec.hdr) fun _ => rfl]
  refine (h.buildHeaderTable _).mapRead fun d h => ?_
  exact ((h.dec fun x => { x with ll := ll, d := d }).streamState .decodeBlockStart).goto .litLen

theorem headerTurn (h : Paced s t) : InPace Paced (Machine.headerTurn s) (Machine.headerTurn t) := by
  cases h.same
  exact .ite (fun _ => .goes (h.goto .clSym)) fun _ => h.finishHeader

theorem withLengths (h : Paced s t) (new : List Nat) : Paced (s.withLengths new) (t.withLengths new) :=
  h.dec fun d => { d with hdr := { d.hdr with lens := d.hdr.lens ++ new } }

theorem appendLength (h : Paced s t) (v : Nat) :
    InPace Paced (Machine.appendLength v s) (Machine.appendLength v t) :=
  (h.withLengths [v]).headerTurn

theorem appendRepeat (h : Paced s t) (rep v : Nat) :
    InPace Paced (Machine.appendRepeat rep v s) (Machine.appendRepeat rep v t) := by
  cases h.same
  exact .ite (fun _ => .ends (h.raise _ _)) fun _ =>
    (h.withLengths (List.replicate rep v)).headerTurn

theorem dynamicHeader (h : Paced s t) (hlit hdist hclen : Nat) :
    InPace Paced (Machine.dynamicHeader hlit hdist hclen s) (Machine.dynamicHeader hlit hdist hclen t) := by
  by_cases legal : hlit ≤ 286 ∧ hdist ≤ 30
  · rw [dynamicHeader_eq legal.1 legal.2, dynamicHeader_eq legal.1 legal.2]
    refine (h.readClLengths _ _).bindRead fun lens h => ?_
    have read := h.update (fun u => { u with lenCL := .of lens }) fun _ => ⟨rfl, rfl⟩
    refine (read.buildHeaderTable lens).mapRead fun cl h => ?_
    exact (h.dec fun d => { d with cl := cl, hdr := { hlit := hlit, hdist := hdist, lens := [] } }).goto .clSym
  · unfold Machine.dynamicHeader
    split
    · exact .ends (h.raise _ _)
    split
    · exact .ends (h.raise _ _)
    · omega

/-! ### The packer and the writer -/

theorem bwWrite (h : Paced s t) (value n : Nat) (reversed : Bool) :
    InPace Paced (Machine.bwWrite value n reversed s) (Machine.bwWrite value n reversed t) := by
  cases h.same
  exact .ite (fun _ => .goes ⟨rfl, h.clear⟩) fun _ => .ends (h.raise _ _)

theorem bwFinish (h : Paced s t) : InPace PacedRead (Machine.bwFinish s) (Machine.bwFinish t) := by
  cases h.same
  exact .ite (fun _ => .goes ⟨rfl, rfl, h.clear⟩) fun _ => .ends (h.raise _ _)

theorem finishEncode (h : Paced s t) : PacedEnd (Machine.finishEncode s) (Machine.finishEncode t) := by
  unfold Machine.finishEncode
  rcases h.bwFinish.read_cases with ⟨bs, _, _, hs, ht, h⟩ | ⟨_, _, hs, ht, h⟩ <;> rw [hs, ht]
  · exact h.ended (answerDone bs) fun _ => ⟨rfl, rfl, rfl⟩
  · exact h

theorem packSymbol (h : Paced s t) (sym : Nat) :
    InPace Paced (Machine.packSymbol sym s) (Machine.packSymbol sym t) := by
  cases h.same
  exact .ite (fun _ => .ends (h.raise _ _)) fun _ => .ite (fun _ => .ends (h.raise _ _)) fun _ => h.bwWrite ..

theorem advance (h : Paced s t) (slots : Nat) : Paced (Machine.advance slots s) (Machine.advance slots t) :=
  h.update (Machine.advance slots) fun _ => ⟨rfl, rfl⟩

theorem packMatch (h : Paced s t) (sym eb ev d deb dev : Nat) :
    InPace Paced (Machine.packMatch sym eb ev d deb dev s) (Machine.packMatch sym eb ev d deb dev t) := by
  cases h.same
  refine .ite (fun _ => .ends (h.raise _ _)) fun _ => .ite (fun _ => .ends (h.raise _ _)) fun _ => ?_
  refine (h.bwWrite ev eb true).andThen fun h => ?_
  cases h.same
  exact (h.bwWrite ..).andThen fun h => (h.bwWrite dev deb true).map fun _ _ h => h.advance 6

/-! ### The elements -/

theorem execStoredHdr (h : Paced s t) (len nlen : BitVec 16) :
    TurnInPace (Machine.execStoredHdr len nlen s) (Machine.execStoredHdr len nlen t) := by
  unfold Machine.execStoredHdr
  split
  · exact .ends (h.raise _ _)
  · exact ((h.dec fun d => { d with blockLen := len.toNat }).streamState .decodeBlockStart).storedBody.conclude

theorem execCl16 (h : Paced s t) (extra : BitVec 2) :
    TurnInPace (Machine.execCl16 extra s) (Machine.execCl16 extra t) := by
  unfold Machine.execCl16
  rw [h.eq (fun u => u.dec.hdr) fun _ => rfl]
  split
  · exact .ends (h.raise _ _)
  · exact (h.appendRepeat _ _).on.conclude

theorem execTMatch (h : Paced s t) (lc : BitVec 8) (le lv dc de dv : Slot) :
    TurnInPace (Machine.execTMatch lc le lv dc de dv s) (Machine.execTMatch lc le lv dc de dv t) := by
  rw [execTMatch_eq, execTMatch_eq]
  exact ((h.packSymbol _).bind fun _ _ h => h.packMatch ..).on.conclude

theorem execDte (h : Paced s t) (cl sym : BitVec 16) :
    TurnInPace (Machine.execDte cl sym s) (Machine.execDte cl sym t) := by
  obtain ⟨index, maxLen, run⟩ := execDte_eq cl sym s
  rw [run s rfl, run t (h.eq State.seq fun _ => rfl)]
  exact ((h.consumeEntry ..).mapRead fun v h => .inr (h.answer (.symbol v))).conclude

theorem execElement (h : Paced s t) (i : Instr) : TurnInPace (Machine.execElement i s) (Machine.execElement i t) := by
  cases i with
  | blockStored f => exact .goes (((h.blockHeader f .stored).streamState .blockBodyStart).goto .stored)
  | blockFixed f =>
    exact .goes (((h.blockHeader f .fixed).useFixedTables.streamState .decodeBlockStart).goto .litLen)
  | blockDynamic f => exact .goes (((h.blockHeader f .dynamic).streamState .blockBodyStart).goto .dynHdr)
  | blockReserved f =>
    cases h.same
    exact .ends ((h.blockHeader f .reserved).raise _ _)
  | storedHdr len nlen => exact h.execStoredHdr len nlen
  | dynHdr l d c => exact (h.dynamicHeader _ _ _).on.conclude
  | lit b => exact ((h.emit b).map fun _ _ h => h.goto .litLen).on.conclude
  | eob => exact .mk h.endBlock
  | len257 | len258 | len259 | len260 | len261 | len262 | len263 | len264 | len285 => exact .goes (h.takeLength _)
  | len265 x | len266 x | len267 x | len268 x | len269 x | len270 x | len271 x | len272 x | len273 x | len274 x
  | len275 x | len276 x | len277 x | len278 x | len279 x | len280 x | len281 x | len282 x | len283 x | len284 x =>
    exact .goes (h.takeLength _)
  | llInvalid286 | llInvalid287 | distInvalid30 | distInvalid31 => exact .ends (h.raise _ _)
  | dist0 | dist1 | dist2 | dist3 => exact (h.takeDistance _).on.conclude
  | dist4 x | dist5 x | dist6 x | dist7 x | dist8 x | dist9 x | dist10 x | dist11 x | dist12 x | dist13 x | dist14 x
  | dist15 x | dist16 x | dist17 x | dist18 x | dist19 x | dist20 x | dist21 x | dist22 x | dist23 x | dist24 x
  | dist25 x | dist26 x | dist27 x | dist28 x | dist29 x =>
    exact (h.takeDistance _).on.conclude
  | cl0 | cl1 | cl2 | cl3 | cl4 | cl5 | cl6 | cl7 | cl8 | cl9 | cl10 | cl11 | cl12 | cl13 | cl14 | cl15 =>
    exact (h.appendLength _).on.conclude
  | cl16 x => exact h.execCl16 x
  | cl17 x | cl18 x => exact (h.appendRepeat _ _).on.conclude
  | tLit b => exact ((h.packSymbol _).map fun _ _ h => h.advance 1).on.conclude
  | tEob => exact ((h.packSymbol 256).map fun _ _ h => .inr h.finishEncode).conclude
  | tMatch lc le lv dc de dv => exact h.execTMatch lc le lv dc de dv
  | dte cl sym => exact h.execDte cl sym
  | _ => exact .goes h

theorem illegalElement (h : Paced s t) (r : Raw) :
    PacedEnd (Machine.illegalElement r s) (Machine.illegalElement r t) := by
  unfold Machine.illegalElement
  split <;> exact h.raise _ _

/-! ### Fetching -/

theorem fetchSymbol (h : Paced s t) (f : Format) (width : Nat) (tb : DecodeTable) (extra : Nat → Nat) :
    InPace PacedRead (Machine.fetchSymbol f width tb extra s) (Machine.fetchSymbol f width tb extra t) := by
  rw [fetchSymbol_eq, fetchSymbol_eq]
  exact (h.readSymbol tb).bindRead fun _ h => (h.readBits _).mapRead fun _ h => ⟨rfl, h⟩

theorem fetchFields (h : Paced s t) (f : Format) (n m : Nat) :
    InPace PacedRead (Machine.fetchFields f n m s) (Machine.fetchFields f n m t) := by
  rw [fetchFields_eq, fetchFields_eq]
  exact (h.readBits n).bindRead fun _ h => (h.readBits m).mapRead fun _ h => ⟨rfl, h⟩

theorem fetchCounts (h : Paced s t) : InPace PacedRead (Machine.fetchCounts s) (Machine.fetchCounts t) := by
  rw [fetchCounts_eq, fetchCounts_eq]
  exact (h.fetchFields .dynHdr 5 5).bindRead fun _ h => (h.readBits 4).mapRead fun _ h => ⟨rfl, h⟩

theorem fetchDistance (h : Paced s t) : InPace PacedRead (Machine.fetchDistance s) (Machine.fetchDistance t) := by
  cases h.same
  exact .ite (fun _ => .goes ⟨rfl, rfl, h.clear⟩) fun _ => h.fetchSymbol ..

theorem fetchToken (h : Paced s t) : InPace PacedRead (Machine.fetchToken s) (Machine.fetchToken t) := by
  unfold Machine.fetchToken
  rw [h.eq (fun u => u.tok.drop u.enc.tokIndex) fun _ => rfl]
  split
  · exact .ends (h.raise _ _)
  split
  · split
    · exact .goes ⟨rfl, h⟩
    · exact .ends (h.raise _ _)
  · exact .goes ⟨rfl, h⟩

theorem fetchElement (h : Paced s t) : InPace PacedRead (Machine.fetchElement s) (Machine.fetchElement t) := by
  unfold Machine.fetchElement
  rw [h.eq State.seq fun _ => rfl]
  split
  next idle => exact .ends ⟨h.same, idle, .of_clear h.clear⟩
  · exact .goes ⟨rfl, h⟩
  · exact h.fetchToken
  · exact (h.streamState .blockHeaderStart).tryStart.fetchFields .blkHdr 1 2
  · exact (h.tryStart.br Reader.align).fetchFields .stored 16 16
  · exact h.tryStart.fetchCounts
  · cases h.same
    exact h.fetchSymbol ..
  · have ready := h.flushBlocks.tryStart
    dsimp only
    rw [ready.eq (fun u => u.dec.ll) fun _ => rfl]
    exact ready.fetchSymbol ..
  · exact h.fetchDistance

/-! ### Turns -/

theorem turn (h : Paced s t) : TurnInPace (Machine.turn s) (Machine.turn t) := by
  unfold Machine.turn
  rcases h.fetchElement.read_cases with ⟨_, _, _, hs, ht, h⟩ | ⟨_, _, hs, ht, h⟩ <;> rw [hs, ht]
  · dsimp only
    split
    · exact h.execElement _
    · exact .ends (h.illegalElement _)
  · exact .ends h

theorem stays (h : Paced s t) : s.FaultEntry ∧ ∃ n, steps n t = .next s.inTurns :=
  ⟨.of_clear h.clear, 0, congrArg _ h.same⟩

/-- Turns one after another are steps with turn grain, and end as R332 says if they take a fault. -/
theorem runTurns (h : Paced s t) {fuel : Nat} {u : State} (hu : Machine.runTurns fuel s = .next u) :
    u.FaultEntry ∧ ∃ n, steps n t = .next u.inTurns := by
  induction fuel generalizing s t with
  | zero => cases hu; exact h.stays
  | succ fuel ih =>
    by_cases idle : s.seq = .idle
    · rw [runTurns_of_idle idle] at hu; cases hu; exact h.stays
    have turned := h.turn
    have step (n : Nat) {v : State} (hv : Machine.turn t = .next v) : steps (n + 1) t = steps n v := by
      rw [steps, step_busy ((h.eq State.seq fun _ => rfl).trans_ne idle), runElement_eq_turn, hv]
    rw [runTurns_succ idle] at hu
    generalize Machine.turn s = o, Machine.turn t = o' at turned hu step
    cases turned with
    | mk h =>
    rcases h with h | ended
    · obtain ⟨entry, n, run⟩ := ih h hu
      exact ⟨entry, n + 1, (step n rfl).trans run⟩
    · have last := (runTurns_of_idle ended.idle fuel).symm.trans hu
      cases last
      exact ⟨ended.entry, 1, (step 0 rfl).trans (congrArg _ ended.same)⟩

end Paced
end

end Sys2Proof.Machine
end

section
/-! PROOFS. Commands in pace (R375, R390): with either grain a command ends alike, or its turns begin, which are further
steps with turn grain. -/

namespace Sys2Proof.Machine

section
variable {s t : State}

/-! ## What a command's step leaves to be done -/

/-- The command's one step with any grain ends as R332 says if it takes a fault, and with turn grain further steps lead
there (R390). -/
def Unfolds (o o' : Outcome) : Prop :=
  ∀ t, o = .next t → t.FaultEntry ∧ ∃ u n, o' = .next u ∧ steps n u = .next t.inTurns

namespace Unfolds

theorem of_end (h : PacedEnd s t) : Unfolds (.next s) (.next t) := by
  rintro _ ⟨⟩
  exact ⟨h.entry, t, 0, rfl, congrArg _ h.same⟩

theorem ite {c : Prop} [Decidable c] {o o' p p' : Outcome} (h : c → Unfolds o o') (h' : ¬c → Unfolds p p') :
    Unfolds (if c then o else p) (if c then o' else p') := by
  split
  next hc => exact h hc
  next hc => exact h' hc

theorem conclude {a b : Act State} (h : InPace PacedEnd a b) : Unfolds (Machine.conclude a) (Machine.conclude b) := by
  cases h with
  | goes h => exact of_end h
  | ends h => exact of_end h

end Unfolds

theorem PacedOn.settle (h : PacedOn s t) : Unfolds (Machine.settle s) (Machine.settle t) := by
  have waits (u : State) : Machine.settle u.inTurns = .next u.inTurns := rfl
  rcases h with h | ended
  · intro u hu
    rw [h.same, waits]
    unfold Machine.settle at hu
    split at hu
    · obtain ⟨entry, n, run⟩ := h.runTurns hu
      exact ⟨entry, s.inTurns, n, rfl, h.same ▸ run⟩
    · cases hu
      exact ⟨.of_clear h.clear, s.inTurns, 0, rfl, rfl⟩
  · have rests : Machine.settle s = .next s := by
      unfold Machine.settle
      split
      · exact runTurns_of_idle ended.idle _
      · rfl
    rw [rests, ended.same, waits]
    exact .of_end ⟨rfl, ended.idle, ended.entry⟩

/-- The command goes on with its turns unless it is over already. -/
theorem InPace.settles {a b : Act State} (h : InPace PacedOn a b) :
    Unfolds (match (generalizing := false) a with | .error t => .next t | .ok u => settle u)
      (match (generalizing := false) b with | .error t => .next t | .ok u => settle u) := by
  cases h with
  | goes h => exact h.settle
  | ends h => exact .of_end h

namespace Paced

theorem withInput (h : Paced s t) {body : State → Outcome} (hb : Unfolds (body s) (body t)) :
    Unfolds (Machine.withInput s body) (Machine.withInput t body) := by
  cases h.same
  refine .ite (fun _ => hb) fun _ => ?_
  rintro _ ⟨⟩

theorem framed (h : Paced s t) {c : Bool} {body : State → Outcome}
    (hb : ∀ {s t}, Paced s t → Unfolds (body s) (body t)) :
    Unfolds (Machine.framed c s body) (Machine.framed c t body) := by
  rw [framed_runs h.clear, framed_runs ((h.eq (fun u => u.status.fault) fun _ => rfl).trans h.clear)]
  exact hb (h.update (beginCommand c) fun _ => ⟨rfl, rfl⟩)

/-! ### The bit writer and the bit reader -/

theorem execBwFinish (h : Paced s t) : Unfolds (Machine.execBwFinish s) (Machine.execBwFinish t) := by
  refine h.framed fun {s t} h => ?_
  rcases h.bwFinish.read_cases with ⟨_, _, _, hs, ht, h⟩ | ⟨_, _, hs, ht, h⟩ <;> rw [hs, ht]
  · exact .of_end (h.answer _)
  · exact .of_end h

theorem brInit (h : Paced s t) : InPace Paced (Machine.brInit s) (Machine.brInit t) := by
  cases h.same
  exact .ite (fun _ => .goes ⟨rfl, h.clear⟩) fun _ => .ends (h.raise _ _)

theorem execBrRead (h : Paced s t) (n : Nat) : Unfolds (Machine.execBrRead n s) (Machine.execBrRead n t) := by
  refine h.framed fun {s t} h => .ite (fun _ => .of_end (h.raise _ _)) fun _ => h.withInput ?_
  have idle := h.seq .idle
  rcases (idle.readBits n).read_cases with ⟨_, _, _, hs, ht, h⟩ | ⟨_, _, hs, ht, h⟩ <;> rw [hs, ht]
  · exact .of_end (h.answer _)
  · exact .of_end h

theorem execBrDecode (h : Paced s t) (tb : DecodeTable) :
    Unfolds (Machine.execBrDecode tb s) (Machine.execBrDecode tb t) := by
  refine h.framed fun h => ?_
  cases h.same
  refine .ite (fun _ => h.withInput ?_) fun _ => .of_end (h.raise _ _)
  exact PacedOn.settle (.inl ⟨rfl, h.clear⟩)

theorem execBrRestore (h : Paced s t) : Unfolds (Machine.execBrRestore s) (Machine.execBrRestore t) := by
  refine h.framed fun h => ?_
  cases h.same
  exact .ite (fun _ => .of_end ((h.br Reader.back).answer .none)) fun _ => .of_end (h.raise _ _)

/-! ### The builders -/

theorem putLens (h : Paced s t) (a : Alphabet) (l : List Nat) : Paced (s.putLens a l) (t.putLens a l) :=
  h.update (·.putLens a l) fun _ => by cases a <;> exact ⟨rfl, rfl⟩

theorem putCodes (h : Paced s t) (a : Alphabet) (l : List Nat) : Paced (s.putCodes a l) (t.putCodes a l) :=
  h.update (·.putCodes a l) fun _ => by cases a <;> exact ⟨rfl, rfl⟩

theorem execHtbBuild (h : Paced s t) (a : TableArg) :
    Unfolds (Machine.execHtbBuild a s) (Machine.execHtbBuild a t) := by
  refine h.framed fun {s t} h => ?_
  rw [h.eq (fun u => resolveTable u.lenTable a) fun _ => rfl]
  split
  · exact .of_end (h.raise _ _)
  refine .ite (fun _ => ?_) fun _ => .of_end (h.raise _ _)
  unfold buildTable
  cases htbBuild _ with
  | error i => exact .of_end (h.raise _ _)
  | ok x =>
    have made := h.update (fun u => { u.tableBuilt x.1 x.2 with built := u.built ++ [x.1] }) fun _ => ⟨rfl, rfl⟩
    exact .of_end (made.answer (.table x.1))

theorem execCcbLengths (h : Paced s t) (a : TableArg) (limit : Nat) :
    Unfolds (Machine.execCcbLengths a limit s) (Machine.execCcbLengths a limit t) := by
  refine h.framed fun {s t} h => .ite (fun _ => ?_) fun _ => .of_end (h.raise _ _)
  rw [h.eq (fun u => resolveTable u.freqTable a) fun _ => rfl, h.eq State.params fun _ => rfl]
  split
  · exact .of_end (h.raise _ _)
  split
  · exact .of_end (h.raise _ _)
  cases a with
  | lit _ => exact .of_end (h.answer _)
  | reg al => exact .of_end ((h.putLens al _).answer _)

theorem execCcbCodes (h : Paced s t) (a : TableArg) :
    Unfolds (Machine.execCcbCodes a s) (Machine.execCcbCodes a t) := by
  refine h.framed fun {s t} h => ?_
  rw [h.eq (fun u => resolveTable u.lenTable a) fun _ => rfl]
  split
  · exact .of_end (h.raise _ _)
  refine .ite (fun _ => ?_) fun _ => .of_end (h.raise _ _)
  split
  · exact .of_end (h.raise _ _)
  cases a with
  | lit _ => exact .of_end (h.answer _)
  | reg al => exact .of_end ((h.putCodes al _).answer _)

theorem ccbRle (h : Paced s t) (src : List Nat) : Paced (Machine.ccbRle src s) (Machine.ccbRle src t) :=
  h.update (Machine.ccbRle src) fun _ => ⟨rfl, rfl⟩

theorem execCcbRle (h : Paced s t) (src : List Nat) :
    Unfolds (Machine.execCcbRle src s) (Machine.execCcbRle src t) := by
  refine h.framed fun h => .ite (fun _ => .of_end ?_) fun _ => .of_end (h.raise _ _)
  exact (h.ccbRle src).answer _

/-! ### The encoder -/

theorem writeFields (h : Paced s t) (fields : List (Nat × Nat)) :
    InPace Paced (Machine.writeFields fields s) (Machine.writeFields fields t) := by
  induction fields generalizing s t with
  | nil => exact .goes h
  | cons field rest ih =>
    obtain ⟨v, n⟩ := field
    exact (h.bwWrite v n true).andThen ih

theorem storedBlock (h : Paced s t) (last : Bool) (chunk : List Byte) :
    InPace Paced (Machine.storedBlock last chunk s) (Machine.storedBlock last chunk t) := by
  refine (h.writeFields _).andThen fun h => ?_
  cases h.same
  exact h.writeFields _

theorem storedBlocks (h : Paced s t) (fuel : Nat) (data : List Byte) :
    InPace Paced (Machine.storedBlocks fuel data s) (Machine.storedBlocks fuel data t) := by
  induction fuel generalizing s t data with
  | zero => exact .goes h
  | succ fuel ih =>
    refine (h.storedBlock _ _).andThen fun h => ?_
    have passed := h.update (fun u =>
      { u with enc := { u.enc with chunkPos := u.enc.chunkPos + (data.take Config.storedMax).length } })
      fun _ => ⟨rfl, rfl⟩
    exact .ite (fun _ => .goes passed) fun _ => ih passed _

theorem buildCodes (h : Paced s t) (a : Alphabet) (limit : Nat) :
    InPace Paced (Machine.buildCodes a limit s) (Machine.buildCodes a limit t) := by
  unfold Machine.buildCodes
  rw [h.eq (fun u => ccbLengths u.params (u.freqTable a).entries limit) fun _ => rfl]
  split
  · exact .ends (h.raise _ _)
  split
  · exact .ends (h.raise _ _)
  · exact .goes ((h.putLens a _).putCodes a _)

theorem dynamicTables (h : Paced s t) : InPace Paced (Machine.dynamicTables s) (Machine.dynamicTables t) := by
  refine (h.buildCodes ..).andThen fun h => (h.buildCodes ..).andThen fun h => ?_
  cases h.same
  refine ((h.ccbRle _).buildCodes ..).andThen fun h => ?_
  cases h.same
  exact .goes ⟨rfl, h.clear⟩

theorem bwInit (h : Paced s t) : Paced (Machine.bwInit s) (Machine.bwInit t) :=
  h.update Machine.bwInit fun _ => ⟨rfl, rfl⟩

theorem lzmRun (h : Paced s t) : Paced (Machine.lzmRun s) (Machine.lzmRun t) :=
  h.update Machine.lzmRun fun _ => ⟨rfl, rfl⟩

theorem execLzmRun (h : Paced s t) : Unfolds (Machine.execLzmRun s) (Machine.execLzmRun t) := by
  refine h.framed fun h => ?_
  cases h.same
  exact .of_end (h.lzmRun.answer _)

theorem startPacking (h : Paced s t) : Paced (Machine.startPacking s) (Machine.startPacking t) :=
  h.update Machine.startPacking fun _ => ⟨rfl, rfl⟩

theorem startFixed (h : Paced s t) : InPace Paced (Machine.startFixed s) (Machine.startFixed t) :=
  ((h.bwInit.lzmRun.update useFixedCodes fun _ => ⟨rfl, rfl⟩).writeFields _).map fun _ _ h => h.startPacking

theorem startDynamic (h : Paced s t) : InPace Paced (Machine.startDynamic s) (Machine.startDynamic t) := by
  refine h.bwInit.lzmRun.dynamicTables.andThen fun h => ?_
  cases h.same
  exact (h.writeFields _).map fun _ _ h => h.startPacking

theorem execEncStored (h : Paced s t) : Unfolds (Machine.execEncStored s) (Machine.execEncStored t) := by
  refine h.framed fun h => ?_
  cases h.same
  have begun := h.bwInit.update (fun u => { u with enc := { u.enc with chunkPos := 0 } }) fun _ => ⟨rfl, rfl⟩
  exact .conclude ((begun.storedBlocks ..).map fun _ _ h => h.finishEncode)

/-! ### The decoders -/

theorem startDecode (h : Paced s t) (job : Job) :
    InPace Paced (Machine.startDecode job s) (Machine.startDecode job t) :=
  h.brInit.map fun _ _ h => (h.dec fun d => { d with out := [], blocks := [] }).seq (.decode job .blkHdr)

theorem appendChunk (h : Paced s t) (chunk : Option (List Byte)) :
    Paced (Machine.appendChunk chunk s) (Machine.appendChunk chunk t) :=
  h.update (Machine.appendChunk chunk) fun _ => by cases chunk <;> exact ⟨rfl, rfl⟩

theorem firstCall (h : Paced s t) (startOffset : Option Nat) :
    InPace Paced (Machine.firstCall startOffset s) (Machine.firstCall startOffset t) := by
  cases h.same
  refine .ite (fun _ => .goes h) fun _ => ?_
  have begun := h.update (fun u => { u with sdec := { u.sdec with started := true } }) fun _ => ⟨rfl, rfl⟩
  cases startOffset with
  | none => exact .goes begun
  | some off => exact .ite (fun _ => .ends (begun.raise _ _)) fun _ => .goes ⟨rfl, h.clear⟩

theorem dispatch (h : Paced s t) : InPace PacedOn (Machine.dispatch s) (Machine.dispatch t) := by
  have placed (ph : Phase) : Paced (streamAt ph s) (streamAt ph t) := h.seq _
  have before (ph : Phase) (x : SdecState) := (placed ph).streamState x
  unfold Machine.dispatch
  rw [h.eq (fun u => u.sdec.state) fun _ => rfl, h.eq (fun u => u.dec.btype) fun _ => rfl]
  split
  case h_1 | h_2 => exact .goes (.inl (placed _))
  case h_3 | h_4 =>
    split
    · exact .goes (.inl (before _ _))
    · exact .goes (.inl (before _ _).useFixedTables)
    · exact .goes (.inl (before _ _))
    · cases h.same
      exact .ends (h.raise _ _)
  case h_5 | h_6 =>
    split
    · exact (before _ _).storedBody
    · exact .goes (.inl (before _ _))
  case h_7 => exact .goes (placed _).endBlock

theorem execSdecInit (h : Paced s t) : Unfolds (Machine.execSdecInit s) (Machine.execSdecInit t) := by
  refine h.framed fun {s t} h => ?_
  exact .of_end ⟨by rw [h.same]; rfl, rfl, .of_clear h.clear⟩

theorem streamCall (h : Paced s t) (chunk : Option (List Byte)) (startOffset : Option Nat) :
    Unfolds (Machine.streamCall chunk startOffset s) (Machine.streamCall chunk startOffset t) := by
  unfold Machine.streamCall
  rw [h.eq (fun u => u.status.done) fun _ => rfl]
  refine .ite (fun _ => .of_end (h.answer _)) fun _ => h.withInput ?_
  have first := (h.appendChunk chunk).firstCall startOffset
  generalize Machine.firstCall startOffset (Machine.appendChunk chunk s) = a,
    Machine.firstCall startOffset (Machine.appendChunk chunk t) = b at first
  cases first with
  | goes h => exact h.dispatch.settles
  | ends h => exact .of_end h

/-! ### All commands -/

theorem exec_command (h : Paced s t) {i : Instr} (cmd : (encode i).format = .cmd) (reset : i ≠ .reset)
    (consumed : i ≠ .rdConsumed) : Unfolds (exec i s) (exec i t) := by
  cases i with
  | reset => exact absurd rfl reset
  | rdConsumed => exact absurd rfl consumed
  | bwInit => exact h.framed fun h => .of_end (h.bwInit.answer .none)
  | bwWrite v n r => exact h.framed fun h => .conclude ((h.bwWrite v n r).map fun _ _ h => h.answer .none)
  | bwFinish => exact h.execBwFinish
  | brInit => exact h.framed fun h => .conclude (h.brInit.map fun _ _ h => h.answer .none)
  | brRead n => exact h.execBrRead n
  | brDecode tb => exact h.execBrDecode tb
  | brAlign => exact h.framed fun h => .of_end ((h.br Reader.align).answer .none)
  | brSave => exact h.framed fun h => .of_end ((h.br Reader.keep).answer .none)
  | brRestore => exact h.execBrRestore
  | htbBuild a => exact h.execHtbBuild a
  | lzmRun => exact h.execLzmRun
  | ccbLengths a l => exact h.execCcbLengths a l
  | ccbCodes a => exact h.execCcbCodes a
  | ccbRle src => exact h.execCcbRle src
  | encStored => exact h.execEncStored
  | encFixed => exact h.framed fun h => h.startFixed.on.settles
  | encDynamic => exact h.framed fun h => h.startDynamic.on.settles
  | decBlock => exact h.framed fun h => (h.startDecode .block).on.settles
  | decAdaptive => exact h.framed fun h => (h.startDecode .adaptive).on.settles
  | sdecInit => exact h.execSdecInit
  | sdecCall c f => exact h.framed fun h => h.streamCall c f
  | _ => cases cmd

end Paced
end

end Sys2Proof.Machine
end

section
/-! PROOFS. Faults as a whole machine takes them (R332, R333), and a command counted in turns (R390). -/

namespace Sys2Proof.Machine

/-! ## While a fault is recorded (R333) -/

/-- RESET's word (R130). The first arm of the decoder is its own; the last is the words that are no command. -/
theorem decodeCmd_reset {w : Nat} {o : CmdOps} (h : decodeCmd w o = .ok .reset) : w = 0x0000 := by
  unfold decodeCmd at h
  split at h
  case h_1 => rfl
  case h_24 =>
    split at h
    · cases h
    · split at h <;> cases h
  all_goals cases h

/-- A command other than RESET keeps STATUS and the idle core. -/
theorem runCommand_faulted {it : Issue} {s t : State} {f : FaultCode} (hf : s.status.fault = some f)
    (h : runCommand it s = .next t) :
    (t.status = s.status ∧ t.seq = s.seq) ∨ (it.word = 0x0000 ∧ t.FreshBySpec) := by
  unfold runCommand at h
  split at h
  next i hi =>
    by_cases reset : i = .reset
    · subst reset
      cases h
      exact .inr ⟨BitVec.eq_of_toNat_eq (decodeCmd_reset hi), State.fresh_freshBySpec ..⟩
    by_cases consumed : i = .rdConsumed
    · subst consumed
      cases (execRdConsumed_faulted hf).symm.trans h
      exact .inl ⟨rfl, rfl⟩
    cases (exec_refused hf (decode_format hi) reset consumed).symm.trans h
    exact .inl ⟨rfl, rfl⟩
  next =>
    cases (framed_refused hf).symm.trans h
    exact .inl ⟨rfl, rfl⟩

/-- Settles O2: every command but the two is refused, and a step of an idle core is a command's or nothing. -/
theorem commandsAreRefusedWhileFaulted : Obligations.CommandsAreRefusedWhileFaulted := by
  intro s f hf
  refine ⟨fun i => exec_refused hf, ⟨_, rfl, State.fresh_freshBySpec ..⟩, ⟨_, execRdConsumed_faulted hf, rfl⟩,
    fun idle t ht => ?_⟩
  cases hp : s.port with
  | nil =>
    cases (step_idle idle hp).symm.trans ht
    exact .inl ⟨rfl, idle⟩
  | cons it rest =>
    have status := accept_status it rest s
    have seq := (accept_seq it rest s).trans idle
    rw [step_command idle hp] at ht
    refine (runCommand_faulted (status ▸ hf) ht).imp ?_ fun ⟨word, fresh⟩ => ⟨it, rest, rfl, word, fresh⟩
    exact fun ⟨status', seq'⟩ => ⟨status'.trans status, seq'.trans seq⟩

/-! ## The entry of a fault (R332) -/

theorem runCommand_faultEntry {it : Issue} {s t : State} (clear : s.status.fault = none)
    (h : runCommand it s = .next t) : t.FaultEntry := by
  unfold runCommand at h
  split at h
  next i hi =>
    by_cases reset : i = .reset
    · subst reset; cases h; exact .of_clear rfl
    by_cases consumed : i = .rdConsumed
    · subst consumed
      cases (execRdConsumed_clear clear).symm.trans h
      exact .of_clear clear
    · exact (Paced.exec_command ⟨rfl, clear⟩ (decode_format hi) reset consumed t h).1
  next =>
    cases (framed_runs clear).symm.trans h
    rintro _ ⟨⟩
    exact ⟨rfl, rfl, rfl, rfl⟩

theorem step_faultEntry {s t : State} (clear : s.status.fault = none) (h : step s = .next t) : t.FaultEntry := by
  by_cases idle : s.seq = .idle
  · cases hp : s.port with
    | nil => cases (step_idle idle hp).symm.trans h; exact .of_clear clear
    | cons it rest =>
      rw [step_command idle hp] at h
      exact runCommand_faultEntry ((accept_status it rest s).symm ▸ clear) h
  · rw [step_busy idle, runElement_eq_turn] at h
    have turned := Paced.turn ⟨rfl, clear⟩
    rw [h] at turned
    generalize turn s.inTurns = o at turned
    cases turned with
    | mk on => exact on.elim (fun h => .of_clear h.clear) PacedEnd.entry

/-- Settles O3: a step from a state without a fault enters one as R332 says, and no step changes the parameters. -/
theorem everyFaultIsTakenAsOneEntry : Obligations.EveryFaultIsTakenAsOneEntry := by
  intro s t f clear h hf
  obtain ⟨done, needInput, result, idle⟩ := step_faultEntry clear h f hf
  exact ⟨done, needInput, result, idle, (step_params_grain h).1⟩

/-! ## Counting in turns (R390) -/

/-- Settles O12: with turn grain a command's first step leaves off where its turns begin, and each turn is a step. -/
theorem turnsMakeUpTheCommand : Obligations.TurnsMakeUpTheCommand := by
  intro i s t cmd grain _ h
  have turns := inTurns_withGrain grain .command
  generalize ({ s with grain := .command } : State) = c at h turns
  subst turns
  have once (e : exec i c.inTurns = .next t.inTurns) :
      ∃ u n, exec i c.inTurns = .next u ∧ steps n u = .next t.inTurns := ⟨_, 0, e, rfl⟩
  by_cases reset : i = .reset
  · subst reset; cases h; exact once rfl
  cases hf : c.status.fault with
  | none =>
    by_cases consumed : i = .rdConsumed
    · subst consumed
      cases (execRdConsumed_clear hf).symm.trans h
      exact once (execRdConsumed_clear (s := c.inTurns) hf)
    · exact (Paced.exec_command ⟨rfl, hf⟩ cmd reset consumed t h).2
  | some f =>
    by_cases consumed : i = .rdConsumed
    · subst consumed
      cases (execRdConsumed_faulted hf).symm.trans h
      exact once (execRdConsumed_faulted (s := c.inTurns) hf)
    · cases (exec_refused hf cmd reset consumed).symm.trans h
      exact once (exec_refused (s := c.inTurns) hf cmd reset consumed)

end Sys2Proof.Machine
end
